-- ==== Sys2Proof/Word.lean ====
section
/-! DEFINITION. The word types of the command decoder and the plain data the interfaces carry. -/

namespace Sys2Proof

/-- An opcode, the top 8 bits of a command's first word (R4 `OP_BITS`, R60). -/
abbrev Byte := BitVec 8

/-- A 32-bit word of the command buffer (R4 `WORD_BITS`, R22). -/
abbrev Word := BitVec 32

/-- A source colour field, `0xBBGGRR` (R63). -/
abbrev Colour := BitVec 24

/-- An output colour, red on top (R155). -/
abbrev Rgb := BitVec 24

/-- The packet buffer `PKT[0..15]` (R18, R4 `PKT_WORDS`). -/
abbrev Packet := Vector Word 16

/-- A device coordinate of the port, known by a code alone: the number format is OPEN (R4, R151, D13), so nothing says
which number a code is, and no arithmetic is given (log 6). -/
structure DevCoord where
  code : Nat
  deriving DecidableEq, Repr, Inhabited

/-- The result `lastOpcode` (R20): the sentinel `INCOMPLETE` or an opcode 0..255. -/
inductive LastOp where
  | incomplete
  | opcode (op : Byte)
  deriving DecidableEq, Repr, Inhabited

end Sys2Proof
end

