-- ==== Sys2Proof/Config.lean ====
section
/-! DEFINITION. The implementation parameters of R4. A DECIDED parameter has its decided value; an OPEN one, and
every free value, is an opaque constant, so that no proof can see what it is. -/

namespace Sys2Proof

/-- The accounting scheme `ACCT` (R98). -/
inductive Acct where
  | direct
  | deferred
  deriving DecidableEq, Repr

/-- The width of a raw vertex coordinate, `VTX_COORD_BITS` (R64). -/
inductive VtxCoordBits where
  | bits16
  | bits11
  deriving DecidableEq, Repr

/-- The backend culling mode of a style record (R152): none, or a mode the sources do not name, by a code. -/
inductive CullMode where
  | none
  | mode (code : Nat)
  deriving DecidableEq, Repr, Inhabited

/-- The nine persistent registers (R10, R17). -/
structure Persistent where
  texStat : BitVec 11
  clipX1 : BitVec 10
  clipY1 : BitVec 9
  clipX2 : BitVec 10
  clipY2 : BitVec 9
  ofsX : BitVec 11
  ofsY : BitVec 11
  maskSet : Bool
  maskChk : Bool
  deriving DecidableEq, Repr

/-- A value of the parameter `RESET_STATE` (R4, R26, U4): the nine registers and `STATUS[12:0]` right after reset. -/
structure ResetState where
  registers : Persistent
  statusLow : BitVec 13
  deriving DecidableEq, Repr

namespace Config

/-- `ACCT`, DECIDED D10: `DIRECT` (log 9). -/
def acct : Acct := .direct

/-- `VTX_COORD_BITS`, DECIDED D5: 16 (log 14). -/
def vtxCoordBits : VtxCoordBits := .bits16

/-- `COST`, OPEN: the cost estimate of an opcode and an area (R98, D30; log 8). -/
opaque cost : Byte → Nat → Nat

/-- `RESET_STATE`, DECIDED D9: all zero (R26; log 1). -/
def resetState : ResetState where
  registers := ⟨0, 0, 0, 0, 0, 0, 0, false, false⟩
  statusLow := 0

/-- `HSCALE`, OPEN (R154, D13). R154 fixes it for at least the length of an invocation; that it is one constant over all
invocations of a run is the model's choice, DESIGN CHOICE (log 6). -/
opaque hscale : DevCoord

/-- `VSCALE`, OPEN (R154, D13). As for `hscale`, one constant over all invocations is the model's choice, DESIGN CHOICE
(log 6). -/
opaque vscale : DevCoord

/-- The product of a scale factor and an integer in the port's number format, its rounding included: OPEN (R4, R153,
R154; log 6). -/
opaque scale : DevCoord → Int → DevCoord

/-- `DEPTH_CONST`, OPEN (R156, D14; log 7). -/
opaque depthConst : DevCoord

/-- `CULL_MODE`, OPEN (R152, D15; log 7). -/
opaque cullMode : CullMode

/-- The free value of `LASTOP` at the start of an invocation, any of -1..255 (R91, D12; log 5). -/
opaque freeLastOp : Nat → LastOp

/-- The free contents of the packet buffer where no rule gives it a value (R18, D26; log 3). -/
opaque freePacket : Nat → Packet

end Config

end Sys2Proof
end

