-- ==== Sys2Proof/Syntax.lean ====
section
/-! DEFINITION. The instructions: one constructor per row of spec/opcode_table.json, in opcode order (R73).
Operands are the VALUES that R79 assembles, with the ranges of R77 checked in WellFormed.lean; a command of
format N (R72) carries none, since nothing reads its payload or operand words (R75). -/

namespace Sys2Proof

/-- A raw vertex position (R64, R161): the signed integers decoded from one vertex word. -/
structure Vertex where
  x : Int
  y : Int
  deriving DecidableEq, Repr

/-- One command of the protocol (R60, R73). Constructors stand in opcode order, 0x00 to 0xFF. -/
inductive Instr where
  | nopUnk00
  | nopUnk01
  /-- FILL, opcode 0x02 (R67, R113). -/
  | fill (x y w h : Nat)
  | nopUnk03
  | nopUnk04
  | nopUnk05
  | nopUnk06
  | nopUnk07
  | nopUnk08
  | nopUnk09
  | nopUnk0A
  | nopUnk0B
  | nopUnk0C
  | nopUnk0D
  | nopUnk0E
  | nopUnk0F
  | nopUnk10
  | nopUnk11
  | nopUnk12
  | nopUnk13
  | nopUnk14
  | nopUnk15
  | nopUnk16
  | nopUnk17
  | nopUnk18
  | nopUnk19
  | nopUnk1A
  | nopUnk1B
  | nopUnk1C
  | nopUnk1D
  | nopUnk1E
  | nopUnk1F
  /-- POLY_F3, opcode 0x20 (R68, R170). -/
  | polyF3 (c : Colour) (v0 v1 v2 : Vertex)
  | polyAck21
  | polyAck22
  | polyAck23
  | polyAck24
  | polyAck25
  | polyAck26
  | polyAck27
  /-- POLY_F4, opcode 0x28 (R68, R171). -/
  | polyF4 (c : Colour) (v0 v1 v2 v3 : Vertex)
  | polyAck29
  | polyAck2A
  | polyAck2B
  | polyAck2C
  | polyAck2D
  | polyAck2E
  | polyAck2F
  /-- POLY_G3, opcode 0x30 (R69, R172). -/
  | polyG3 (c0 : Colour) (v0 : Vertex) (c1 : Colour) (v1 : Vertex) (c2 : Colour) (v2 : Vertex)
  | polyAck31
  | polyAck32
  | polyAck33
  | polyAck34
  | polyAck35
  | polyAck36
  | polyAck37
  /-- POLY_G4, opcode 0x38 (R69, R173). -/
  | polyG4 (c0 : Colour) (v0 : Vertex) (c1 : Colour) (v1 : Vertex) (c2 : Colour) (v2 : Vertex) (c3 : Colour) (v3 : Vertex)
  | polyAck39
  | polyAck3A
  | polyAck3B
  | polyAck3C
  | polyAck3D
  | polyAck3E
  | polyAck3F
  /-- LINE_F2, opcode 0x40 (R70, R181). -/
  | lineF2 (c : Colour) (v0 v1 : Vertex)
  | lineAck41
  | lineAck42
  | lineAck43
  | lineAck44
  | lineAck45
  | lineAck46
  | lineAck47
  | lineAck48
  | lineAck49
  | lineAck4A
  | lineAck4B
  | lineAck4C
  | lineAck4D
  | lineAck4E
  | lineAck4F
  /-- LINE_G2, opcode 0x50 (R70, R182). -/
  | lineG2 (c0 : Colour) (v0 : Vertex) (c1 : Colour) (v1 : Vertex)
  | lineAck51
  | lineAck52
  | lineAck53
  | lineAck54
  | lineAck55
  | lineAck56
  | lineAck57
  | lineAck58
  | lineAck59
  | lineAck5A
  | lineAck5B
  | lineAck5C
  | lineAck5D
  | lineAck5E
  | lineAck5F
  /-- RECT_F, opcode 0x60 (R71, R190). -/
  | rectF (c : Colour) (origin : Vertex) (w h : Nat)
  | rectAck61
  | rectAck62
  | rectAck63
  | rectAck64
  | rectAck65
  | rectAck66
  | rectAck67
  | rectAck68
  | rectAck69
  | rectAck6A
  | rectAck6B
  | rectAck6C
  | rectAck6D
  | rectAck6E
  | rectAck6F
  | rectAck70
  | rectAck71
  | rectAck72
  | rectAck73
  | rectAck74
  | rectAck75
  | rectAck76
  | rectAck77
  | rectAck78
  | rectAck79
  | rectAck7A
  | rectAck7B
  | rectAck7C
  | rectAck7D
  | rectAck7E
  | rectAck7F
  | xferVv80
  | xferVv81
  | xferVv82
  | xferVv83
  | xferVv84
  | xferVv85
  | xferVv86
  | xferVv87
  | xferVv88
  | xferVv89
  | xferVv8A
  | xferVv8B
  | xferVv8C
  | xferVv8D
  | xferVv8E
  | xferVv8F
  | xferVv90
  | xferVv91
  | xferVv92
  | xferVv93
  | xferVv94
  | xferVv95
  | xferVv96
  | xferVv97
  | xferVv98
  | xferVv99
  | xferVv9A
  | xferVv9B
  | xferVv9C
  | xferVv9D
  | xferVv9E
  | xferVv9F
  | xferCvA0
  | xferCvA1
  | xferCvA2
  | xferCvA3
  | xferCvA4
  | xferCvA5
  | xferCvA6
  | xferCvA7
  | xferCvA8
  | xferCvA9
  | xferCvAA
  | xferCvAB
  | xferCvAC
  | xferCvAD
  | xferCvAE
  | xferCvAF
  | xferCvB0
  | xferCvB1
  | xferCvB2
  | xferCvB3
  | xferCvB4
  | xferCvB5
  | xferCvB6
  | xferCvB7
  | xferCvB8
  | xferCvB9
  | xferCvBA
  | xferCvBB
  | xferCvBC
  | xferCvBD
  | xferCvBE
  | xferCvBF
  | xferVcC0
  | xferVcC1
  | xferVcC2
  | xferVcC3
  | xferVcC4
  | xferVcC5
  | xferVcC6
  | xferVcC7
  | xferVcC8
  | xferVcC9
  | xferVcCA
  | xferVcCB
  | xferVcCC
  | xferVcCD
  | xferVcCE
  | xferVcCF
  | xferVcD0
  | xferVcD1
  | xferVcD2
  | xferVcD3
  | xferVcD4
  | xferVcD5
  | xferVcD6
  | xferVcD7
  | xferVcD8
  | xferVcD9
  | xferVcDA
  | xferVcDB
  | xferVcDC
  | xferVcDD
  | xferVcDE
  | xferVcDF
  | nopUnkE0
  /-- TPAGE, opcode 0xE1 (R66, R130). -/
  | tpage (tp : Nat)
  /-- TWIN, opcode 0xE2 (R66, R131). -/
  | twin
  /-- CLIP_TL, opcode 0xE3 (R66, R132). -/
  | clipTl (x y : Nat)
  /-- CLIP_BR, opcode 0xE4 (R66, R133). -/
  | clipBr (x y : Nat)
  /-- DRAWOFS, opcode 0xE5 (R66, R134). -/
  | drawofs (dx dy : Int)
  /-- MASKBITS, opcode 0xE6 (R66, R135). -/
  | maskbits (set chk : Bool)
  | nopUnkE7
  | nopUnkE8
  | nopUnkE9
  | nopUnkEA
  | nopUnkEB
  | nopUnkEC
  | nopUnkED
  | nopUnkEE
  | nopUnkEF
  | nopUnkF0
  | nopUnkF1
  | nopUnkF2
  | nopUnkF3
  | nopUnkF4
  | nopUnkF5
  | nopUnkF6
  | nopUnkF7
  | nopUnkF8
  | nopUnkF9
  | nopUnkFA
  | nopUnkFB
  | nopUnkFC
  | nopUnkFD
  | nopUnkFE
  | nopUnkFF
  deriving DecidableEq, Repr

end Sys2Proof
end

