-- ==== Sys2Proof/WellFormed.lean ====
section
/-! DEFINITION. Which instruction terms are well formed: every operand within the range R79 and R77 give it. -/

namespace Sys2Proof

/-- The least raw coordinate a vertex word can hold (R64, R79). -/
def coordMin : VtxCoordBits → Int
  | .bits16 => -32768
  | .bits11 => -1024

/-- The greatest raw coordinate a vertex word can hold (R64, R79). -/
def coordMax : VtxCoordBits → Int
  | .bits16 => 32767
  | .bits11 => 1023

/-- Both coordinates fit the vertex word (R64, R77). -/
def Vertex.wellFormed (v : Vertex) : Bool :=
  decide (coordMin Config.vtxCoordBits ≤ v.x) && decide (v.x ≤ coordMax Config.vtxCoordBits) &&
    decide (coordMin Config.vtxCoordBits ≤ v.y) && decide (v.y ≤ coordMax Config.vtxCoordBits)

/-- A drawing offset fits its signed 11-bit field (R66, R79). -/
def offsetInRange (d : Int) : Bool := decide (-1024 ≤ d) && decide (d ≤ 1023)

/-- A size, or a coordinate of FILL, fits its unsigned 16-bit field (R65, R79). -/
def halfInRange (n : Nat) : Bool := decide (n ≤ 65535)

/-- A clip corner fits its 10-bit x and 9-bit y fields (R66, R79). -/
def clipInRange (x y : Nat) : Bool := decide (x ≤ 1023) && decide (y ≤ 511)

/-- Every operand is in the range R77 and R79 give it. Colours and flags have no value out of range, and a
command without operands is always well formed (R74). -/
def Instr.wellFormed : Instr → Bool
  | .fill x y w h => halfInRange x && halfInRange y && halfInRange w && halfInRange h
  | .polyF3 _ v0 v1 v2 => v0.wellFormed && v1.wellFormed && v2.wellFormed
  | .polyF4 _ v0 v1 v2 v3 => v0.wellFormed && v1.wellFormed && v2.wellFormed && v3.wellFormed
  | .polyG3 _ v0 _ v1 _ v2 => v0.wellFormed && v1.wellFormed && v2.wellFormed
  | .polyG4 _ v0 _ v1 _ v2 _ v3 => v0.wellFormed && v1.wellFormed && v2.wellFormed && v3.wellFormed
  | .lineF2 _ v0 v1 => v0.wellFormed && v1.wellFormed
  | .lineG2 _ v0 _ v1 => v0.wellFormed && v1.wellFormed
  | .rectF _ origin w h => origin.wellFormed && halfInRange w && halfInRange h
  | .tpage tp => decide (tp ≤ 2047)
  | .clipTl x y => clipInRange x y
  | .clipBr x y => clipInRange x y
  | .drawofs dx dy => offsetInRange dx && offsetInRange dy
  | .maskbits _ _ => true
  | .nopUnk00 | .nopUnk01 | .nopUnk03 | .nopUnk04 | .nopUnk05 | .nopUnk06 | .nopUnk07 | .nopUnk08 |
    .nopUnk09 | .nopUnk0A | .nopUnk0B | .nopUnk0C | .nopUnk0D | .nopUnk0E | .nopUnk0F | .nopUnk10 |
    .nopUnk11 | .nopUnk12 | .nopUnk13 | .nopUnk14 | .nopUnk15 | .nopUnk16 | .nopUnk17 | .nopUnk18 |
    .nopUnk19 | .nopUnk1A | .nopUnk1B | .nopUnk1C | .nopUnk1D | .nopUnk1E | .nopUnk1F | .polyAck21 |
    .polyAck22 | .polyAck23 | .polyAck24 | .polyAck25 | .polyAck26 | .polyAck27 | .polyAck29 | .polyAck2A |
    .polyAck2B | .polyAck2C | .polyAck2D | .polyAck2E | .polyAck2F | .polyAck31 | .polyAck32 | .polyAck33 |
    .polyAck34 | .polyAck35 | .polyAck36 | .polyAck37 | .polyAck39 | .polyAck3A | .polyAck3B | .polyAck3C |
    .polyAck3D | .polyAck3E | .polyAck3F | .lineAck41 | .lineAck42 | .lineAck43 | .lineAck44 | .lineAck45 |
    .lineAck46 | .lineAck47 | .lineAck48 | .lineAck49 | .lineAck4A | .lineAck4B | .lineAck4C | .lineAck4D |
    .lineAck4E | .lineAck4F | .lineAck51 | .lineAck52 | .lineAck53 | .lineAck54 | .lineAck55 | .lineAck56 |
    .lineAck57 | .lineAck58 | .lineAck59 | .lineAck5A | .lineAck5B | .lineAck5C | .lineAck5D | .lineAck5E |
    .lineAck5F | .rectAck61 | .rectAck62 | .rectAck63 | .rectAck64 | .rectAck65 | .rectAck66 | .rectAck67 |
    .rectAck68 | .rectAck69 | .rectAck6A | .rectAck6B | .rectAck6C | .rectAck6D | .rectAck6E | .rectAck6F |
    .rectAck70 | .rectAck71 | .rectAck72 | .rectAck73 | .rectAck74 | .rectAck75 | .rectAck76 | .rectAck77 |
    .rectAck78 | .rectAck79 | .rectAck7A | .rectAck7B | .rectAck7C | .rectAck7D | .rectAck7E | .rectAck7F |
    .xferVv80 | .xferVv81 | .xferVv82 | .xferVv83 | .xferVv84 | .xferVv85 | .xferVv86 | .xferVv87 |
    .xferVv88 | .xferVv89 | .xferVv8A | .xferVv8B | .xferVv8C | .xferVv8D | .xferVv8E | .xferVv8F |
    .xferVv90 | .xferVv91 | .xferVv92 | .xferVv93 | .xferVv94 | .xferVv95 | .xferVv96 | .xferVv97 |
    .xferVv98 | .xferVv99 | .xferVv9A | .xferVv9B | .xferVv9C | .xferVv9D | .xferVv9E | .xferVv9F |
    .xferCvA0 | .xferCvA1 | .xferCvA2 | .xferCvA3 | .xferCvA4 | .xferCvA5 | .xferCvA6 | .xferCvA7 |
    .xferCvA8 | .xferCvA9 | .xferCvAA | .xferCvAB | .xferCvAC | .xferCvAD | .xferCvAE | .xferCvAF |
    .xferCvB0 | .xferCvB1 | .xferCvB2 | .xferCvB3 | .xferCvB4 | .xferCvB5 | .xferCvB6 | .xferCvB7 |
    .xferCvB8 | .xferCvB9 | .xferCvBA | .xferCvBB | .xferCvBC | .xferCvBD | .xferCvBE | .xferCvBF |
    .xferVcC0 | .xferVcC1 | .xferVcC2 | .xferVcC3 | .xferVcC4 | .xferVcC5 | .xferVcC6 | .xferVcC7 |
    .xferVcC8 | .xferVcC9 | .xferVcCA | .xferVcCB | .xferVcCC | .xferVcCD | .xferVcCE | .xferVcCF |
    .xferVcD0 | .xferVcD1 | .xferVcD2 | .xferVcD3 | .xferVcD4 | .xferVcD5 | .xferVcD6 | .xferVcD7 |
    .xferVcD8 | .xferVcD9 | .xferVcDA | .xferVcDB | .xferVcDC | .xferVcDD | .xferVcDE | .xferVcDF |
    .nopUnkE0 | .twin | .nopUnkE7 | .nopUnkE8 | .nopUnkE9 | .nopUnkEA | .nopUnkEB | .nopUnkEC | .nopUnkED |
    .nopUnkEE | .nopUnkEF | .nopUnkF0 | .nopUnkF1 | .nopUnkF2 | .nopUnkF3 | .nopUnkF4 | .nopUnkF5 |
    .nopUnkF6 | .nopUnkF7 | .nopUnkF8 | .nopUnkF9 | .nopUnkFA | .nopUnkFB | .nopUnkFC | .nopUnkFD |
    .nopUnkFE | .nopUnkFF => true

end Sys2Proof
end

