-- ==== Sys2Proof/Decode.lean ====
section
/-! DEFINITION. Command framing, the decoder, and after it the encoder, both written from 30_encoding (R60 to R79). -/

namespace Sys2Proof

/-! ### The length table -/

/-- The default length table `T_LEN` (R61, DECIDED D2; log 11), one row of 16 opcodes a line. -/
def tLen : List Nat :=
  [0, 0, 2, 0, 0, 0, 0, 0, 0, 0, 0, 0, 0, 0, 0, 0] ++
  [0, 0, 0, 0, 0, 0, 0, 0, 0, 0, 0, 0, 0, 0, 0, 0] ++
  [3, 3, 3, 3, 6, 6, 6, 6, 4, 4, 4, 4, 8, 8, 8, 8] ++
  [5, 5, 5, 5, 8, 8, 8, 8, 7, 7, 7, 7, 11, 11, 11, 11] ++
  [2, 2, 2, 2, 2, 2, 2, 2, 3, 3, 3, 3, 3, 3, 3, 3] ++
  [3, 3, 3, 3, 3, 3, 3, 3, 4, 4, 4, 4, 4, 4, 4, 4] ++
  [2, 2, 2, 2, 3, 3, 3, 3, 1, 1, 1, 1, 2, 2, 2, 2] ++
  [1, 1, 1, 1, 2, 2, 2, 2, 1, 1, 1, 1, 2, 2, 2, 2] ++
  [3, 3, 3, 3, 3, 3, 3, 3, 3, 3, 3, 3, 3, 3, 3, 3] ++
  [3, 3, 3, 3, 3, 3, 3, 3, 3, 3, 3, 3, 3, 3, 3, 3] ++
  [2, 2, 2, 2, 2, 2, 2, 2, 2, 2, 2, 2, 2, 2, 2, 2] ++
  [2, 2, 2, 2, 2, 2, 2, 2, 2, 2, 2, 2, 2, 2, 2, 2] ++
  [2, 2, 2, 2, 2, 2, 2, 2, 2, 2, 2, 2, 2, 2, 2, 2] ++
  [2, 2, 2, 2, 2, 2, 2, 2, 2, 2, 2, 2, 2, 2, 2, 2] ++
  [0, 0, 0, 0, 0, 0, 0, 0, 0, 0, 0, 0, 0, 0, 0, 0] ++
  [0, 0, 0, 0, 0, 0, 0, 0, 0, 0, 0, 0, 0, 0, 0, 0]

/-- `LEN[op]`: how many operand words follow an opcode word (R61, R94). -/
def len (op : Byte) : Nat := tLen.getD op.toNat 0

/-! ### Fields of a word (R5, R6) -/

/-- `sext_N` of an N-bit field (R6). -/
def sext {n : Nat} (b : BitVec n) : Int := b.toInt

/-- `zext_N` of an N-bit field (R6). -/
def zext {n : Nat} (b : BitVec n) : Nat := b.toNat

/-- `W0[31:24]` (R60, R93). -/
def opcodeField (w : Word) : Byte := w.extractLsb' 24 8

/-- `W[23:0]`, a colour; the top byte is not read (R63). -/
def colourField (w : Word) : Colour := w.extractLsb' 0 24

/-- `W[15:0]` unsigned (R65). -/
def lowHalf (w : Word) : Nat := zext (w.extractLsb' 0 16)

/-- `W[31:16]` unsigned (R65). -/
def highHalf (w : Word) : Nat := zext (w.extractLsb' 16 16)

/-- A vertex word under either coordinate width (R64). -/
def rawVertex (bits : VtxCoordBits) (w : Word) : Vertex :=
  match bits with
  | .bits16 => ⟨sext (w.extractLsb' 0 16), sext (w.extractLsb' 16 16)⟩
  | .bits11 => ⟨sext (w.extractLsb' 0 11), sext (w.extractLsb' 16 11)⟩

/-- A vertex word under the configured width (R64, D5). -/
def vertexField (w : Word) : Vertex := rawVertex Config.vtxCoordBits w

/-! ### Reading a command from the packet buffer (R18, R97) -/

/-- The packet copy (R96): the first words of `old` become `ws`; the words above are not written. -/
def copyWords (ws : List Word) (old : Packet) : Packet :=
  ⟨((ws ++ old.toList.drop ws.length).take 16).toArray, by simp; omega⟩

/-- Format N (R72) and TWIN (R131): no operand is read. -/
def readAck (i : Instr) (_ : Packet) : Instr := i

/-- Format FILL (R67); the colour in `W0` is not read. -/
def readFill (p : Packet) : Instr := .fill (lowHalf p[1]) (highHalf p[1]) (lowHalf p[2]) (highHalf p[2])

/-- Format PF(3) (R68). -/
def readPolyF3 (p : Packet) : Instr :=
  .polyF3 (colourField p[0]) (vertexField p[1]) (vertexField p[2]) (vertexField p[3])

/-- Format PF(4) (R68). -/
def readPolyF4 (p : Packet) : Instr :=
  .polyF4 (colourField p[0]) (vertexField p[1]) (vertexField p[2]) (vertexField p[3]) (vertexField p[4])

/-- Format PG(3) (R69). -/
def readPolyG3 (p : Packet) : Instr :=
  .polyG3 (colourField p[0]) (vertexField p[1]) (colourField p[2]) (vertexField p[3]) (colourField p[4])
    (vertexField p[5])

/-- Format PG(4) (R69). -/
def readPolyG4 (p : Packet) : Instr :=
  .polyG4 (colourField p[0]) (vertexField p[1]) (colourField p[2]) (vertexField p[3]) (colourField p[4])
    (vertexField p[5]) (colourField p[6]) (vertexField p[7])

/-- Format LF2 (R70). -/
def readLineF2 (p : Packet) : Instr := .lineF2 (colourField p[0]) (vertexField p[1]) (vertexField p[2])

/-- Format LG2 (R70). -/
def readLineG2 (p : Packet) : Instr :=
  .lineG2 (colourField p[0]) (vertexField p[1]) (colourField p[2]) (vertexField p[3])

/-- Format RF (R71): a signed origin word and an unsigned size word. -/
def readRectF (p : Packet) : Instr :=
  .rectF (colourField p[0]) (vertexField p[1]) (lowHalf p[2]) (highHalf p[2])

/-- `TP = W0[10:0]` (R66, R130). -/
def readTpage (p : Packet) : Instr := .tpage (zext (p[0].extractLsb' 0 11))

/-- `X = W0[9:0]`, `Y = W0[18:10]` (R66, R132). -/
def readClipTl (p : Packet) : Instr := .clipTl (zext (p[0].extractLsb' 0 10)) (zext (p[0].extractLsb' 10 9))

/-- `X = W0[9:0]`, `Y = W0[18:10]` (R66, R133). -/
def readClipBr (p : Packet) : Instr := .clipBr (zext (p[0].extractLsb' 0 10)) (zext (p[0].extractLsb' 10 9))

/-- `DX = sext_11(W0[10:0])`, `DY = sext_11(W0[21:11])` (R66, R134). -/
def readDrawofs (p : Packet) : Instr := .drawofs (sext (p[0].extractLsb' 0 11)) (sext (p[0].extractLsb' 11 11))

/-- `SET = W0[0]`, `CHK = W0[1]` (R66, R135). -/
def readMaskbits (p : Packet) : Instr := .maskbits (p[0].getLsbD 0) (p[0].getLsbD 1)

/-- The opcode map (R73): how the command of each opcode is read, one row of 16 opcodes a line group. -/
def opcodeMap : List (Packet → Instr) :=
  [readAck .nopUnk00, readAck .nopUnk01, readFill, readAck .nopUnk03, readAck .nopUnk04, readAck .nopUnk05,
    readAck .nopUnk06, readAck .nopUnk07, readAck .nopUnk08, readAck .nopUnk09, readAck .nopUnk0A,
    readAck .nopUnk0B, readAck .nopUnk0C, readAck .nopUnk0D, readAck .nopUnk0E, readAck .nopUnk0F] ++
  [readAck .nopUnk10, readAck .nopUnk11, readAck .nopUnk12, readAck .nopUnk13, readAck .nopUnk14,
    readAck .nopUnk15, readAck .nopUnk16, readAck .nopUnk17, readAck .nopUnk18, readAck .nopUnk19,
    readAck .nopUnk1A, readAck .nopUnk1B, readAck .nopUnk1C, readAck .nopUnk1D, readAck .nopUnk1E,
    readAck .nopUnk1F] ++
  [readPolyF3, readAck .polyAck21, readAck .polyAck22, readAck .polyAck23, readAck .polyAck24,
    readAck .polyAck25, readAck .polyAck26, readAck .polyAck27, readPolyF4, readAck .polyAck29,
    readAck .polyAck2A, readAck .polyAck2B, readAck .polyAck2C, readAck .polyAck2D, readAck .polyAck2E,
    readAck .polyAck2F] ++
  [readPolyG3, readAck .polyAck31, readAck .polyAck32, readAck .polyAck33, readAck .polyAck34,
    readAck .polyAck35, readAck .polyAck36, readAck .polyAck37, readPolyG4, readAck .polyAck39,
    readAck .polyAck3A, readAck .polyAck3B, readAck .polyAck3C, readAck .polyAck3D, readAck .polyAck3E,
    readAck .polyAck3F] ++
  [readLineF2, readAck .lineAck41, readAck .lineAck42, readAck .lineAck43, readAck .lineAck44,
    readAck .lineAck45, readAck .lineAck46, readAck .lineAck47, readAck .lineAck48, readAck .lineAck49,
    readAck .lineAck4A, readAck .lineAck4B, readAck .lineAck4C, readAck .lineAck4D, readAck .lineAck4E,
    readAck .lineAck4F] ++
  [readLineG2, readAck .lineAck51, readAck .lineAck52, readAck .lineAck53, readAck .lineAck54,
    readAck .lineAck55, readAck .lineAck56, readAck .lineAck57, readAck .lineAck58, readAck .lineAck59,
    readAck .lineAck5A, readAck .lineAck5B, readAck .lineAck5C, readAck .lineAck5D, readAck .lineAck5E,
    readAck .lineAck5F] ++
  [readRectF, readAck .rectAck61, readAck .rectAck62, readAck .rectAck63, readAck .rectAck64,
    readAck .rectAck65, readAck .rectAck66, readAck .rectAck67, readAck .rectAck68, readAck .rectAck69,
    readAck .rectAck6A, readAck .rectAck6B, readAck .rectAck6C, readAck .rectAck6D, readAck .rectAck6E,
    readAck .rectAck6F] ++
  [readAck .rectAck70, readAck .rectAck71, readAck .rectAck72, readAck .rectAck73, readAck .rectAck74,
    readAck .rectAck75, readAck .rectAck76, readAck .rectAck77, readAck .rectAck78, readAck .rectAck79,
    readAck .rectAck7A, readAck .rectAck7B, readAck .rectAck7C, readAck .rectAck7D, readAck .rectAck7E,
    readAck .rectAck7F] ++
  [readAck .xferVv80, readAck .xferVv81, readAck .xferVv82, readAck .xferVv83, readAck .xferVv84,
    readAck .xferVv85, readAck .xferVv86, readAck .xferVv87, readAck .xferVv88, readAck .xferVv89,
    readAck .xferVv8A, readAck .xferVv8B, readAck .xferVv8C, readAck .xferVv8D, readAck .xferVv8E,
    readAck .xferVv8F] ++
  [readAck .xferVv90, readAck .xferVv91, readAck .xferVv92, readAck .xferVv93, readAck .xferVv94,
    readAck .xferVv95, readAck .xferVv96, readAck .xferVv97, readAck .xferVv98, readAck .xferVv99,
    readAck .xferVv9A, readAck .xferVv9B, readAck .xferVv9C, readAck .xferVv9D, readAck .xferVv9E,
    readAck .xferVv9F] ++
  [readAck .xferCvA0, readAck .xferCvA1, readAck .xferCvA2, readAck .xferCvA3, readAck .xferCvA4,
    readAck .xferCvA5, readAck .xferCvA6, readAck .xferCvA7, readAck .xferCvA8, readAck .xferCvA9,
    readAck .xferCvAA, readAck .xferCvAB, readAck .xferCvAC, readAck .xferCvAD, readAck .xferCvAE,
    readAck .xferCvAF] ++
  [readAck .xferCvB0, readAck .xferCvB1, readAck .xferCvB2, readAck .xferCvB3, readAck .xferCvB4,
    readAck .xferCvB5, readAck .xferCvB6, readAck .xferCvB7, readAck .xferCvB8, readAck .xferCvB9,
    readAck .xferCvBA, readAck .xferCvBB, readAck .xferCvBC, readAck .xferCvBD, readAck .xferCvBE,
    readAck .xferCvBF] ++
  [readAck .xferVcC0, readAck .xferVcC1, readAck .xferVcC2, readAck .xferVcC3, readAck .xferVcC4,
    readAck .xferVcC5, readAck .xferVcC6, readAck .xferVcC7, readAck .xferVcC8, readAck .xferVcC9,
    readAck .xferVcCA, readAck .xferVcCB, readAck .xferVcCC, readAck .xferVcCD, readAck .xferVcCE,
    readAck .xferVcCF] ++
  [readAck .xferVcD0, readAck .xferVcD1, readAck .xferVcD2, readAck .xferVcD3, readAck .xferVcD4,
    readAck .xferVcD5, readAck .xferVcD6, readAck .xferVcD7, readAck .xferVcD8, readAck .xferVcD9,
    readAck .xferVcDA, readAck .xferVcDB, readAck .xferVcDC, readAck .xferVcDD, readAck .xferVcDE,
    readAck .xferVcDF] ++
  [readAck .nopUnkE0, readTpage, readAck .twin, readClipTl, readClipBr, readDrawofs, readMaskbits,
    readAck .nopUnkE7, readAck .nopUnkE8, readAck .nopUnkE9, readAck .nopUnkEA, readAck .nopUnkEB,
    readAck .nopUnkEC, readAck .nopUnkED, readAck .nopUnkEE, readAck .nopUnkEF] ++
  [readAck .nopUnkF0, readAck .nopUnkF1, readAck .nopUnkF2, readAck .nopUnkF3, readAck .nopUnkF4,
    readAck .nopUnkF5, readAck .nopUnkF6, readAck .nopUnkF7, readAck .nopUnkF8, readAck .nopUnkF9,
    readAck .nopUnkFA, readAck .nopUnkFB, readAck .nopUnkFC, readAck .nopUnkFD, readAck .nopUnkFE,
    readAck .nopUnkFF]

/-- The map decodes all 256 opcodes (R73). -/
theorem opcodeMap_length : opcodeMap.length = 256 := by
  simp only [opcodeMap, List.length_append, List.length_cons, List.length_nil, Nat.reduceAdd]

/-- The command in the packet buffer: dispatch on the opcode alone (R73, R97). There is no illegal encoding (R74). -/
def decodePacket (p : Packet) : Instr :=
  (opcodeMap[(opcodeField p[0]).toNat]'(by rw [opcodeMap_length]; exact (opcodeField p[0]).isLt)) p

/-! ### The decoder -/

/-- Why a stream gives no instruction. No opcode is illegal (R74), so only its end can be in the way. -/
inductive DecodeError where
  /-- Nothing is left (R92). -/
  | noWords
  /-- Fewer words are left than the command has (R95). -/
  | incomplete
  /-- A byte stream that is not a whole number of words (R22, R42). -/
  | raggedBytes
  deriving DecidableEq, Repr

/-- The first command of a word stream and the words after it (R60, R76), whatever the words hold. -/
def decode (ws : List Word) : Except DecodeError (Instr × List Word) :=
  match ws with
  | [] => .error .noWords
  | w0 :: _ =>
    if ws.length < 1 + len (opcodeField w0) then .error .incomplete
    else .ok (decodePacket (copyWords (ws.take (1 + len (opcodeField w0))) (Vector.replicate 16 0#32)),
      ws.drop (1 + len (opcodeField w0)))

/-- The words of a stream stored as bytes: little-endian, the spec's convention for test benches (R42, D20; log 21). -/
def wordsOfBytes : List Byte → Except DecodeError (List Word)
  | [] => .ok []
  | b0 :: b1 :: b2 :: b3 :: rest =>
    match wordsOfBytes rest with
    | .ok ws => .ok ((b3 ++ b2 ++ b1 ++ b0) :: ws)
    | .error e => .error e
  | _ => .error .raggedBytes

/-- The first command of a byte stream and the words after it; total on any bytes, rejecting by name. -/
def decodeBytes (bs : List Byte) : Except DecodeError (Instr × List Word) :=
  match wordsOfBytes bs with
  | .ok ws => decode ws
  | .error e => .error e

/-- The words that the host's table number `w` of `nbits` bits stands for: the first word in its low 32 bits, zeros
above `nbits`, up to the longest command (12 words, R61). -/
def tableWords (nbits w : Nat) : List Word :=
  (List.range 12).map fun k => BitVec.ofNat 32 ((w % 2 ^ nbits) >>> (32 * k))

/-- What the decoder reads from that number. -/
def decodeTableWord (nbits w : Nat) : Option Instr :=
  match decode (tableWords nbits w) with
  | .ok (i, _) => some i
  | .error _ => none

/-! ### The encoder (R77) -/

/-- The opcode of an instruction (R73). -/
def opcodeOf : Instr → Byte
  | .nopUnk00 => 0x00#8
  | .nopUnk01 => 0x01#8
  | .fill .. => 0x02#8
  | .nopUnk03 => 0x03#8
  | .nopUnk04 => 0x04#8
  | .nopUnk05 => 0x05#8
  | .nopUnk06 => 0x06#8
  | .nopUnk07 => 0x07#8
  | .nopUnk08 => 0x08#8
  | .nopUnk09 => 0x09#8
  | .nopUnk0A => 0x0A#8
  | .nopUnk0B => 0x0B#8
  | .nopUnk0C => 0x0C#8
  | .nopUnk0D => 0x0D#8
  | .nopUnk0E => 0x0E#8
  | .nopUnk0F => 0x0F#8
  | .nopUnk10 => 0x10#8
  | .nopUnk11 => 0x11#8
  | .nopUnk12 => 0x12#8
  | .nopUnk13 => 0x13#8
  | .nopUnk14 => 0x14#8
  | .nopUnk15 => 0x15#8
  | .nopUnk16 => 0x16#8
  | .nopUnk17 => 0x17#8
  | .nopUnk18 => 0x18#8
  | .nopUnk19 => 0x19#8
  | .nopUnk1A => 0x1A#8
  | .nopUnk1B => 0x1B#8
  | .nopUnk1C => 0x1C#8
  | .nopUnk1D => 0x1D#8
  | .nopUnk1E => 0x1E#8
  | .nopUnk1F => 0x1F#8
  | .polyF3 .. => 0x20#8
  | .polyAck21 => 0x21#8
  | .polyAck22 => 0x22#8
  | .polyAck23 => 0x23#8
  | .polyAck24 => 0x24#8
  | .polyAck25 => 0x25#8
  | .polyAck26 => 0x26#8
  | .polyAck27 => 0x27#8
  | .polyF4 .. => 0x28#8
  | .polyAck29 => 0x29#8
  | .polyAck2A => 0x2A#8
  | .polyAck2B => 0x2B#8
  | .polyAck2C => 0x2C#8
  | .polyAck2D => 0x2D#8
  | .polyAck2E => 0x2E#8
  | .polyAck2F => 0x2F#8
  | .polyG3 .. => 0x30#8
  | .polyAck31 => 0x31#8
  | .polyAck32 => 0x32#8
  | .polyAck33 => 0x33#8
  | .polyAck34 => 0x34#8
  | .polyAck35 => 0x35#8
  | .polyAck36 => 0x36#8
  | .polyAck37 => 0x37#8
  | .polyG4 .. => 0x38#8
  | .polyAck39 => 0x39#8
  | .polyAck3A => 0x3A#8
  | .polyAck3B => 0x3B#8
  | .polyAck3C => 0x3C#8
  | .polyAck3D => 0x3D#8
  | .polyAck3E => 0x3E#8
  | .polyAck3F => 0x3F#8
  | .lineF2 .. => 0x40#8
  | .lineAck41 => 0x41#8
  | .lineAck42 => 0x42#8
  | .lineAck43 => 0x43#8
  | .lineAck44 => 0x44#8
  | .lineAck45 => 0x45#8
  | .lineAck46 => 0x46#8
  | .lineAck47 => 0x47#8
  | .lineAck48 => 0x48#8
  | .lineAck49 => 0x49#8
  | .lineAck4A => 0x4A#8
  | .lineAck4B => 0x4B#8
  | .lineAck4C => 0x4C#8
  | .lineAck4D => 0x4D#8
  | .lineAck4E => 0x4E#8
  | .lineAck4F => 0x4F#8
  | .lineG2 .. => 0x50#8
  | .lineAck51 => 0x51#8
  | .lineAck52 => 0x52#8
  | .lineAck53 => 0x53#8
  | .lineAck54 => 0x54#8
  | .lineAck55 => 0x55#8
  | .lineAck56 => 0x56#8
  | .lineAck57 => 0x57#8
  | .lineAck58 => 0x58#8
  | .lineAck59 => 0x59#8
  | .lineAck5A => 0x5A#8
  | .lineAck5B => 0x5B#8
  | .lineAck5C => 0x5C#8
  | .lineAck5D => 0x5D#8
  | .lineAck5E => 0x5E#8
  | .lineAck5F => 0x5F#8
  | .rectF .. => 0x60#8
  | .rectAck61 => 0x61#8
  | .rectAck62 => 0x62#8
  | .rectAck63 => 0x63#8
  | .rectAck64 => 0x64#8
  | .rectAck65 => 0x65#8
  | .rectAck66 => 0x66#8
  | .rectAck67 => 0x67#8
  | .rectAck68 => 0x68#8
  | .rectAck69 => 0x69#8
  | .rectAck6A => 0x6A#8
  | .rectAck6B => 0x6B#8
  | .rectAck6C => 0x6C#8
  | .rectAck6D => 0x6D#8
  | .rectAck6E => 0x6E#8
  | .rectAck6F => 0x6F#8
  | .rectAck70 => 0x70#8
  | .rectAck71 => 0x71#8
  | .rectAck72 => 0x72#8
  | .rectAck73 => 0x73#8
  | .rectAck74 => 0x74#8
  | .rectAck75 => 0x75#8
  | .rectAck76 => 0x76#8
  | .rectAck77 => 0x77#8
  | .rectAck78 => 0x78#8
  | .rectAck79 => 0x79#8
  | .rectAck7A => 0x7A#8
  | .rectAck7B => 0x7B#8
  | .rectAck7C => 0x7C#8
  | .rectAck7D => 0x7D#8
  | .rectAck7E => 0x7E#8
  | .rectAck7F => 0x7F#8
  | .xferVv80 => 0x80#8
  | .xferVv81 => 0x81#8
  | .xferVv82 => 0x82#8
  | .xferVv83 => 0x83#8
  | .xferVv84 => 0x84#8
  | .xferVv85 => 0x85#8
  | .xferVv86 => 0x86#8
  | .xferVv87 => 0x87#8
  | .xferVv88 => 0x88#8
  | .xferVv89 => 0x89#8
  | .xferVv8A => 0x8A#8
  | .xferVv8B => 0x8B#8
  | .xferVv8C => 0x8C#8
  | .xferVv8D => 0x8D#8
  | .xferVv8E => 0x8E#8
  | .xferVv8F => 0x8F#8
  | .xferVv90 => 0x90#8
  | .xferVv91 => 0x91#8
  | .xferVv92 => 0x92#8
  | .xferVv93 => 0x93#8
  | .xferVv94 => 0x94#8
  | .xferVv95 => 0x95#8
  | .xferVv96 => 0x96#8
  | .xferVv97 => 0x97#8
  | .xferVv98 => 0x98#8
  | .xferVv99 => 0x99#8
  | .xferVv9A => 0x9A#8
  | .xferVv9B => 0x9B#8
  | .xferVv9C => 0x9C#8
  | .xferVv9D => 0x9D#8
  | .xferVv9E => 0x9E#8
  | .xferVv9F => 0x9F#8
  | .xferCvA0 => 0xA0#8
  | .xferCvA1 => 0xA1#8
  | .xferCvA2 => 0xA2#8
  | .xferCvA3 => 0xA3#8
  | .xferCvA4 => 0xA4#8
  | .xferCvA5 => 0xA5#8
  | .xferCvA6 => 0xA6#8
  | .xferCvA7 => 0xA7#8
  | .xferCvA8 => 0xA8#8
  | .xferCvA9 => 0xA9#8
  | .xferCvAA => 0xAA#8
  | .xferCvAB => 0xAB#8
  | .xferCvAC => 0xAC#8
  | .xferCvAD => 0xAD#8
  | .xferCvAE => 0xAE#8
  | .xferCvAF => 0xAF#8
  | .xferCvB0 => 0xB0#8
  | .xferCvB1 => 0xB1#8
  | .xferCvB2 => 0xB2#8
  | .xferCvB3 => 0xB3#8
  | .xferCvB4 => 0xB4#8
  | .xferCvB5 => 0xB5#8
  | .xferCvB6 => 0xB6#8
  | .xferCvB7 => 0xB7#8
  | .xferCvB8 => 0xB8#8
  | .xferCvB9 => 0xB9#8
  | .xferCvBA => 0xBA#8
  | .xferCvBB => 0xBB#8
  | .xferCvBC => 0xBC#8
  | .xferCvBD => 0xBD#8
  | .xferCvBE => 0xBE#8
  | .xferCvBF => 0xBF#8
  | .xferVcC0 => 0xC0#8
  | .xferVcC1 => 0xC1#8
  | .xferVcC2 => 0xC2#8
  | .xferVcC3 => 0xC3#8
  | .xferVcC4 => 0xC4#8
  | .xferVcC5 => 0xC5#8
  | .xferVcC6 => 0xC6#8
  | .xferVcC7 => 0xC7#8
  | .xferVcC8 => 0xC8#8
  | .xferVcC9 => 0xC9#8
  | .xferVcCA => 0xCA#8
  | .xferVcCB => 0xCB#8
  | .xferVcCC => 0xCC#8
  | .xferVcCD => 0xCD#8
  | .xferVcCE => 0xCE#8
  | .xferVcCF => 0xCF#8
  | .xferVcD0 => 0xD0#8
  | .xferVcD1 => 0xD1#8
  | .xferVcD2 => 0xD2#8
  | .xferVcD3 => 0xD3#8
  | .xferVcD4 => 0xD4#8
  | .xferVcD5 => 0xD5#8
  | .xferVcD6 => 0xD6#8
  | .xferVcD7 => 0xD7#8
  | .xferVcD8 => 0xD8#8
  | .xferVcD9 => 0xD9#8
  | .xferVcDA => 0xDA#8
  | .xferVcDB => 0xDB#8
  | .xferVcDC => 0xDC#8
  | .xferVcDD => 0xDD#8
  | .xferVcDE => 0xDE#8
  | .xferVcDF => 0xDF#8
  | .nopUnkE0 => 0xE0#8
  | .tpage .. => 0xE1#8
  | .twin => 0xE2#8
  | .clipTl .. => 0xE3#8
  | .clipBr .. => 0xE4#8
  | .drawofs .. => 0xE5#8
  | .maskbits .. => 0xE6#8
  | .nopUnkE7 => 0xE7#8
  | .nopUnkE8 => 0xE8#8
  | .nopUnkE9 => 0xE9#8
  | .nopUnkEA => 0xEA#8
  | .nopUnkEB => 0xEB#8
  | .nopUnkEC => 0xEC#8
  | .nopUnkED => 0xED#8
  | .nopUnkEE => 0xEE#8
  | .nopUnkEF => 0xEF#8
  | .nopUnkF0 => 0xF0#8
  | .nopUnkF1 => 0xF1#8
  | .nopUnkF2 => 0xF2#8
  | .nopUnkF3 => 0xF3#8
  | .nopUnkF4 => 0xF4#8
  | .nopUnkF5 => 0xF5#8
  | .nopUnkF6 => 0xF6#8
  | .nopUnkF7 => 0xF7#8
  | .nopUnkF8 => 0xF8#8
  | .nopUnkF9 => 0xF9#8
  | .nopUnkFA => 0xFA#8
  | .nopUnkFB => 0xFB#8
  | .nopUnkFC => 0xFC#8
  | .nopUnkFD => 0xFD#8
  | .nopUnkFE => 0xFE#8
  | .nopUnkFF => 0xFF#8

/-- An opcode word (R60). -/
def opWord (op : Byte) (payload : BitVec 24) : Word := op ++ payload

/-- `V(x, y)` (R77). -/
def vertexWord (v : Vertex) : Word := BitVec.ofInt 16 v.y ++ BitVec.ofInt 16 v.x

/-- A colour word after `W0`; its top byte is written zero (R63, R77). -/
def colourWord (c : Colour) : Word := 0#8 ++ c

/-- `(h << 16) | w` (R65, R77). -/
def halvesWord (low high : Nat) : Word := BitVec.ofNat 16 high ++ BitVec.ofNat 16 low

/-- `(y << 10) | x` (R77). -/
def clipPayload (x y : Nat) : BitVec 24 := 0#5 ++ BitVec.ofNat 9 y ++ BitVec.ofNat 10 x

/-- The payload of the opcode word and the operand words of an instruction (R77); what it does not set is zero. -/
def operandsOf (i : Instr) : BitVec 24 × List Word :=
  match i with
  | .fill x y w h => (0#24, [halvesWord x y, halvesWord w h])
  | .polyF3 c v0 v1 v2 => (c, [vertexWord v0, vertexWord v1, vertexWord v2])
  | .polyF4 c v0 v1 v2 v3 => (c, [vertexWord v0, vertexWord v1, vertexWord v2, vertexWord v3])
  | .polyG3 c0 v0 c1 v1 c2 v2 =>
    (c0, [vertexWord v0, colourWord c1, vertexWord v1, colourWord c2, vertexWord v2])
  | .polyG4 c0 v0 c1 v1 c2 v2 c3 v3 =>
    (c0, [vertexWord v0, colourWord c1, vertexWord v1, colourWord c2, vertexWord v2, colourWord c3, vertexWord v3])
  | .lineF2 c v0 v1 => (c, [vertexWord v0, vertexWord v1])
  | .lineG2 c0 v0 c1 v1 => (c0, [vertexWord v0, colourWord c1, vertexWord v1])
  | .rectF c origin w h => (c, [vertexWord origin, halvesWord w h])
  | .tpage tp => (0#13 ++ BitVec.ofNat 11 tp, [])
  | .clipTl x y => (clipPayload x y, [])
  | .clipBr x y => (clipPayload x y, [])
  | .drawofs dx dy => (0#2 ++ BitVec.ofInt 11 dy ++ BitVec.ofInt 11 dx, [])
  | .maskbits set chk => (0#22 ++ BitVec.ofBool chk ++ BitVec.ofBool set, [])
  | .nopUnk00 | .nopUnk01 | .nopUnk03 | .nopUnk04 | .nopUnk05 | .nopUnk06 | .nopUnk07 | .nopUnk08 |
    .nopUnk09 | .nopUnk0A | .nopUnk0B | .nopUnk0C | .nopUnk0D | .nopUnk0E | .nopUnk0F | .nopUnk10 |
    .nopUnk11 | .nopUnk12 | .nopUnk13 | .nopUnk14 | .nopUnk15 | .nopUnk16 | .nopUnk17 | .nopUnk18 |
    .nopUnk19 | .nopUnk1A | .nopUnk1B | .nopUnk1C | .nopUnk1D | .nopUnk1E | .nopUnk1F | .polyAck21 |
    .polyAck22 | .polyAck23 | .polyAck24 | .polyAck25 | .polyAck26 | .polyAck27 | .polyAck29 | .polyAck2A |
    .polyAck2B | .polyAck2C | .polyAck2D | .polyAck2E | .polyAck2F | .polyAck31 | .polyAck32 | .polyAck33 |
    .polyAck34 | .polyAck35 | .polyAck36 | .polyAck37 | .polyAck39 | .polyAck3A | .polyAck3B | .polyAck3C |
    .polyAck3D | .polyAck3E | .polyAck3F | .lineAck41 | .lineAck42 | .lineAck43 | .lineAck44 | .lineAck45 |
    .lineAck46 | .lineAck47 | .lineAck48 | .lineAck49 | .lineAck4A | .lineAck4B | .lineAck4C | .lineAck4D |
    .lineAck4E | .lineAck4F | .lineAck51 | .lineAck52 | .lineAck53 | .lineAck54 | .lineAck55 | .lineAck56 |
    .lineAck57 | .lineAck58 | .lineAck59 | .lineAck5A | .lineAck5B | .lineAck5C | .lineAck5D | .lineAck5E |
    .lineAck5F | .rectAck61 | .rectAck62 | .rectAck63 | .rectAck64 | .rectAck65 | .rectAck66 | .rectAck67 |
    .rectAck68 | .rectAck69 | .rectAck6A | .rectAck6B | .rectAck6C | .rectAck6D | .rectAck6E | .rectAck6F |
    .rectAck70 | .rectAck71 | .rectAck72 | .rectAck73 | .rectAck74 | .rectAck75 | .rectAck76 | .rectAck77 |
    .rectAck78 | .rectAck79 | .rectAck7A | .rectAck7B | .rectAck7C | .rectAck7D | .rectAck7E | .rectAck7F |
    .xferVv80 | .xferVv81 | .xferVv82 | .xferVv83 | .xferVv84 | .xferVv85 | .xferVv86 | .xferVv87 |
    .xferVv88 | .xferVv89 | .xferVv8A | .xferVv8B | .xferVv8C | .xferVv8D | .xferVv8E | .xferVv8F |
    .xferVv90 | .xferVv91 | .xferVv92 | .xferVv93 | .xferVv94 | .xferVv95 | .xferVv96 | .xferVv97 |
    .xferVv98 | .xferVv99 | .xferVv9A | .xferVv9B | .xferVv9C | .xferVv9D | .xferVv9E | .xferVv9F |
    .xferCvA0 | .xferCvA1 | .xferCvA2 | .xferCvA3 | .xferCvA4 | .xferCvA5 | .xferCvA6 | .xferCvA7 |
    .xferCvA8 | .xferCvA9 | .xferCvAA | .xferCvAB | .xferCvAC | .xferCvAD | .xferCvAE | .xferCvAF |
    .xferCvB0 | .xferCvB1 | .xferCvB2 | .xferCvB3 | .xferCvB4 | .xferCvB5 | .xferCvB6 | .xferCvB7 |
    .xferCvB8 | .xferCvB9 | .xferCvBA | .xferCvBB | .xferCvBC | .xferCvBD | .xferCvBE | .xferCvBF |
    .xferVcC0 | .xferVcC1 | .xferVcC2 | .xferVcC3 | .xferVcC4 | .xferVcC5 | .xferVcC6 | .xferVcC7 |
    .xferVcC8 | .xferVcC9 | .xferVcCA | .xferVcCB | .xferVcCC | .xferVcCD | .xferVcCE | .xferVcCF |
    .xferVcD0 | .xferVcD1 | .xferVcD2 | .xferVcD3 | .xferVcD4 | .xferVcD5 | .xferVcD6 | .xferVcD7 |
    .xferVcD8 | .xferVcD9 | .xferVcDA | .xferVcDB | .xferVcDC | .xferVcDD | .xferVcDE | .xferVcDF |
    .nopUnkE0 | .twin | .nopUnkE7 | .nopUnkE8 | .nopUnkE9 | .nopUnkEA | .nopUnkEB | .nopUnkEC | .nopUnkED |
    .nopUnkEE | .nopUnkEF | .nopUnkF0 | .nopUnkF1 | .nopUnkF2 | .nopUnkF3 | .nopUnkF4 | .nopUnkF5 |
    .nopUnkF6 | .nopUnkF7 | .nopUnkF8 | .nopUnkF9 | .nopUnkFA | .nopUnkFB | .nopUnkFC | .nopUnkFD |
    .nopUnkFE | .nopUnkFF =>
    (0#24, List.replicate (len (opcodeOf i)) 0#32)

/-- The words of an instruction (R77). -/
def encode (i : Instr) : List Word := opWord (opcodeOf i) (operandsOf i).1 :: (operandsOf i).2

end Sys2Proof
end

