-- ==== Sys2Proof/Machine/State.lean ====
section
/-! DEFINITION. The state of the machine as plain data, the reasons a step can stop, and the state after reset. -/

namespace Sys2Proof.Machine

/-- The shading of a style record (R152). -/
inductive Shading where
  | flat
  | gouraud
  deriving DecidableEq, Repr

/-- The depth comparison of a style record: "always draw if equal-or-greater" is the only one (R152, R156). -/
inductive DepthCmp where
  | gequal
  deriving DecidableEq, Repr

/-- One record of the output stream (R23): a call of `configurePrimitiveStyle` (R152) or of `submitVertex` (R151). -/
inductive Record where
  | style (shading : Shading) (depthCmp : DepthCmp) (cull : CullMode)
  | vtx (x y z : DevCoord) (rgb : Rgb) (eor : Bool)
  deriving DecidableEq, Repr

/-- Whether the block is between invocations or in one (R104, R220). -/
inductive Phase where
  | idle
  | running
  deriving DecidableEq, Repr

/-- What the host can do to the block between invocations (R9, R210, R222; log 18). Reading `STATUS` changes nothing
and is no action; creating the block is `State.reset`. -/
inductive HostAction where
  /-- `beginBatch()` (R24). -/
  | beginBatch
  /-- `endBatch()` (R24). -/
  | endBatch
  /-- `processCommands(words, carry, sum)` (R90, R91). -/
  | invoke (words : List Word) (carry sum : Int)
  /-- A new invocation on the words the last one did not consume, followed by `more`, with the counters it returned
  (R208). -/
  | resume (more : List Word)
  /-- The host writes its own bits `STATUS[31:13]` (R16, R210). -/
  | writeStatusHost (bits : BitVec 19)
  deriving DecidableEq, Repr

/-- Everything the spec gives the block (R10, R22 to R24), then the model's own two fields. -/
structure State where
  /-- `TEXSTAT` (R11). -/
  texStat : BitVec 11
  /-- `CLIP_X1` (R12). -/
  clipX1 : BitVec 10
  /-- `CLIP_Y1` (R12). -/
  clipY1 : BitVec 9
  /-- `CLIP_X2` (R13). -/
  clipX2 : BitVec 10
  /-- `CLIP_Y2` (R13). -/
  clipY2 : BitVec 9
  /-- `OFS_X`, the 11 raw bits of a two's-complement number (R14). -/
  ofsX : BitVec 11
  /-- `OFS_Y`, likewise (R14). -/
  ofsY : BitVec 11
  /-- `MASK_SET` (R15). -/
  maskSet : Bool
  /-- `MASK_CHK` (R15). -/
  maskChk : Bool
  /-- `STATUS` (R16). -/
  status : Word
  /-- `PKT[0..15]` (R18). -/
  pkt : Packet
  /-- `POS`, the word offset of the next command (R19). -/
  pos : Nat
  /-- `LASTOP` (R20). -/
  lastOp : LastOp
  /-- `CYC_CARRY` (R21). -/
  cycCarry : Int
  /-- `CYC_SUM` (R21). -/
  cycSum : Int
  /-- `BUF[0..N-1]`, the command buffer of the invocation (R22). -/
  buf : List Word
  /-- `OUT`, oldest record first (R23). -/
  out : List Record
  /-- `BATCH_OPEN` (R24). -/
  batchOpen : Bool
  /-- Idle or in an invocation (R104, R220). -/
  phase : Phase
  /-- The model's own: what the host will do, oldest first; read only while idle (log 18). -/
  script : List HostAction
  /-- The model's own: how many free values have been drawn (log 5). -/
  draws : Nat
  deriving DecidableEq, Repr

/-- Why the machine stops. -/
inductive Fault where
  /-- Raised by the seven drawn commands when no batch is open, before anything is emitted (R158, R204; log 17). Safe:
  the source gives no behaviour for it. -/
  | emitOutsideBatch
  /-- Raised by the host's `beginBatch` while a batch is open (R24, R226; log 19). Safe: the source forbids it and
  gives no behaviour. -/
  | overlappingBatch
  /-- Raised by the host's `endBatch` while no batch is open (R24, R226; log 19). Safe, as above. -/
  | unmatchedEndBatch
  /-- Raised by the fetch when `POS` lies beyond `N`, which no run reaches (R19; log 22). Safe. -/
  | posBeyondBuffer
  deriving DecidableEq, Repr

/-- Why an instruction has no meaning. -/
inductive Refusal where
  /-- Raised by `exec` for an instruction without a meaning yet; no arm raises it now. Safe. -/
  | notModelled (mnemonic : String)
  deriving DecidableEq, Repr

/-- The outcome of an instruction or a step. -/
abbrev Result := Host.Outcome State Fault Refusal

/-- The block right after its creation, for any value of the parameter `RESET_STATE` (R26, R220): the nine registers and
`STATUS[12:0]` from it, no batch open, `OUT` empty, idle. `STATUS[31:13]` (log 2), `PKT` (log 3), the fields of an
invocation (log 4) and the model's own two fields (logs 5 and 18) are DESIGN CHOICE values. -/
def State.resetWith (r : ResetState) : State where
  texStat := r.registers.texStat
  clipX1 := r.registers.clipX1
  clipY1 := r.registers.clipY1
  clipX2 := r.registers.clipX2
  clipY2 := r.registers.clipY2
  ofsX := r.registers.ofsX
  ofsY := r.registers.ofsY
  maskSet := r.registers.maskSet
  maskChk := r.registers.maskChk
  status := 0#19 ++ r.statusLow
  pkt := Vector.replicate 16 0
  pos := 0
  lastOp := .incomplete
  cycCarry := 0
  cycSum := 0
  buf := []
  out := []
  batchOpen := false
  phase := .idle
  script := []
  draws := 0

/-- The block after reset with the configured `RESET_STATE`, all zero by D9 (R26; log 1). -/
def State.reset : State := State.resetWith Config.resetState

end Sys2Proof.Machine
end

