-- ==== Sys2Proof/Machine/Operands.lean ====
section
/-! DEFINITION. How operands become output: the colour reorder, the coordinate transform, the vertex and style
records, and the block rounding of FILL (43_emission_common, R113). -/

namespace Sys2Proof.Machine

/-- The colour reorder (R155): `R = C[7:0]`, `G = C[15:8]`, `B = C[23:16]`, output `(R << 16) | (G << 8) | B`. -/
def rgb (c : Colour) : Rgb := c.extractLsb' 0 8 ++ c.extractLsb' 8 8 ++ c.extractLsb' 16 8

/-- `tx = px + OFS_X - CLIP_X1`, an integer (R153). -/
def preScaleX (s : State) (px : Int) : Int := px + sext s.ofsX - (zext s.clipX1 : Int)

/-- `ty = py + OFS_Y - CLIP_Y1`, an integer (R153). -/
def preScaleY (s : State) (py : Int) : Int := py + sext s.ofsY - (zext s.clipY1 : Int)

/-- `scaleX(t) = HSCALE * t` in the port's number format, a function of the integer alone about which nothing more is
assumed (R153, R154; log 6). -/
def scaleX (t : Int) : DevCoord := Config.scale Config.hscale t

/-- `scaleY(t) = VSCALE * t`, likewise (R153, R154; log 6). -/
def scaleY (t : Int) : DevCoord := Config.scale Config.vscale t

/-- `Vtx(T(v), DEPTH_CONST, colour, eor)` (R151, R153, R156). -/
def vtxRecord (s : State) (v : Vertex) (colour : Rgb) (eor : Bool) : Record :=
  .vtx (scaleX (preScaleX s v.x)) (scaleY (preScaleY s v.y)) Config.depthConst colour eor

/-- `Style(shading, GEQUAL, CULL_MODE)` (R152). -/
def styleRecord (shading : Shading) : Record := .style shading .gequal Config.cullMode

/-- A vertex moved by integers, in raw coordinates and without wrap (R161). -/
def Vertex.plus (v : Vertex) (dx dy : Int) : Vertex := ⟨v.x + dx, v.y + dy⟩

/-- `(v + 14) & ~15` on naturals (R113). -/
def blockRound (v : Nat) : Nat := (v + 14) - (v + 14) % 16

/-- `XR` (R113): computed by FILL and used by nothing (log 27). -/
def fillBlockX (x : Nat) : Nat := blockRound x

/-- The area FILL hands to the accounting: the rounded width times the height (R113). -/
def fillArea (w h : Nat) : Nat := blockRound w * h

end Sys2Proof.Machine
end

