-- ==== Sys2Proof/Machine/Flags.lean ====
section
/-! DEFINITION. The flags of the hardware (R15): the two mask flags, their mirror in `STATUS` (R16), and the
end-of-run flag of a vertex (R157). There are no condition codes. -/

namespace Sys2Proof.Machine

/-- MASKBITS writes both mask flags (R135). -/
def writeMaskFlags (set chk : Bool) (s : State) : State := { s with maskSet := set, maskChk := chk }

/-- `STATUS[10:0]`, `TEX` (R16). -/
def statusTex (status : Word) : BitVec 11 := status.extractLsb' 0 11

/-- `STATUS[11]`, `MSET` (R16). -/
def statusMset (status : Word) : Bool := status.getLsbD 11

/-- `STATUS[12]`, `MCHK` (R16). -/
def statusMchk (status : Word) : Bool := status.getLsbD 12

/-- `STATUS[31:13]`, the host's own bits (R16). -/
def statusHost (status : Word) : BitVec 19 := status.extractLsb' 13 19

/-- `STATUS` put together from its fields (R16). -/
def statusWord (host : BitVec 19) (chk set : Bool) (tex : BitVec 11) : Word :=
  host ++ BitVec.ofBool chk ++ BitVec.ofBool set ++ tex

/-- The exit write-back (R100): bits 12:0 mirror the registers, bits 31:13 are kept. -/
def writeBackStatus (s : State) : State :=
  { s with status := statusWord (statusHost s.status) s.maskChk s.maskSet s.texStat }

/-- One run of vertex records: the last vertex, and no other, has `eor` (R157). -/
def vertexRun (s : State) : List (Vertex × Rgb) → List Record
  | [] => []
  | [(v, colour)] => [vtxRecord s v colour true]
  | (v, colour) :: next :: rest => vtxRecord s v colour false :: vertexRun s (next :: rest)

/-- The records of one primitive: its style, then its run (R150, R152). -/
def primitive (s : State) (shading : Shading) (vertices : List (Vertex × Rgb)) : List Record :=
  styleRecord shading :: vertexRun s vertices

end Sys2Proof.Machine
end

