-- ==== Sys2Proof/Machine/Ops.lean ====
section
/-! DEFINITION. The named operations the meanings and the step share: fetch, packet copy, accounting, advance,
emission, the exit, the incomplete stop (this hardware's one exception, R207) and its resume (R208), and what the host
does between invocations. -/

namespace Sys2Proof.Machine

/-! ### Fetch (R92 to R96) -/

/-- What the tests at the head of a step find. -/
inductive Fetched where
  /-- `POS = N` (R92). -/
  | bufferEnd
  /-- `POS` beyond `N`, which no run reaches (R19; log 22). -/
  | noWord
  /-- Fewer words than the command has (R95). -/
  | incomplete
  /-- A whole command with that many operand words. -/
  | command (operands : Nat)
  deriving DecidableEq, Repr

/-- End-of-buffer test, fetch, length lookup, incomplete test, in this order (R92 to R95, R206). -/
def fetch (s : State) : Fetched :=
  if s.pos = s.buf.length then .bufferEnd
  else
    match s.buf[s.pos]? with
    | none => .noWord
    | some w0 =>
      if s.buf.length - s.pos < 1 + len (opcodeField w0) then .incomplete
      else .command (len (opcodeField w0))

/-- `PKT[i] <- BUF[POS + i]` for `i = 0 .. operands` (R96). -/
def packetCopy (operands : Nat) (s : State) : State :=
  { s with pkt := copyWords ((s.buf.drop s.pos).take (1 + operands)) s.pkt }

/-! ### The end of an executed command (R98, R99) -/

/-- Cycle accounting by either scheme (R98). -/
def account (scheme : Acct) (k : Nat) (s : State) : State :=
  match scheme with
  | .direct => { s with cycSum := s.cycSum + k }
  | .deferred => { s with cycSum := s.cycSum + s.cycCarry, cycCarry := k }

/-- `LASTOP <- op`, `POS <- POS + 1 + LEN[op]` (R99). -/
def advance (op : Byte) (s : State) : State :=
  { s with lastOp := .opcode op, pos := s.pos + 1 + len op }

/-- The packet buffer holds no value between steps (R18): free contents (log 3). -/
def discardPacket (s : State) : State :=
  { s with pkt := Config.freePacket s.draws, draws := s.draws + 1 }

/-- What follows every operation: account `COST(op, area)`, advance, drop the packet (R97 to R99). -/
def retire (op : Byte) (area : Nat) (s : State) : State :=
  discardPacket (advance op (account Config.acct (Config.cost op area) s))

/-- An acknowledged command: consumed, its cost accounted, no other effect (R72, R202). -/
def acknowledge (op : Byte) (s : State) : Result := .next (retire op 0 s)

/-- A drawn command: the batch precondition (R158), one primitive appended to `OUT` (R150), area 0 (R160). -/
def emitPrimitive (op : Byte) (shading : Shading) (vertices : List (Vertex × Rgb)) (s : State) : Result :=
  if s.batchOpen then .next (retire op 0 { s with out := s.out ++ primitive s shading vertices })
  else .fault .emitOutsideBatch

/-! ### The end of an invocation (R100, R207) -/

/-- The exit of either end: the status write-back, and control goes back to the host (R100). -/
def exitInvocation (s : State) : State := { writeBackStatus s with phase := .idle }

/-- The incomplete stop, the one exception of the hardware (R95, R201, R207): `LASTOP <- -1`, `POS` stays at the partial
command, nothing of it is executed, and the invocation exits. -/
def stopIncomplete (s : State) : State := exitInvocation { s with lastOp := .incomplete }

/-- The value of `lastOpcode` the host sees (R20): -1 or 0..255. -/
def lastOpCode : LastOp → Int
  | .incomplete => -1
  | .opcode op => (zext op : Int)

/-- The results of an invocation (R90, R100): `wordsConsumed`, `updatedCarry`, `updatedAccumulator`, `lastOpcode`. -/
def State.result (s : State) : Nat × Int × Int × Int := (s.pos, s.cycCarry, s.cycSum, lastOpCode s.lastOp)

/-- The words of the buffer from `POS` on (R208: what the host re-supplies). -/
def State.unconsumed (s : State) : List Word := s.buf.drop s.pos

/-! ### The start of an invocation and the host's other powers (R91, R208, R210) -/

/-- The start of an invocation (R91): `POS <- 0`, the host's counters, `LASTOP` a free value (log 5), `PKT` holds
nothing (log 3), the persistent registers as they were. -/
def invoke (words : List Word) (carry sum : Int) (s : State) : State :=
  { s with
    buf := words
    pos := 0
    cycCarry := carry
    cycSum := sum
    lastOp := Config.freeLastOp s.draws
    pkt := Config.freePacket s.draws
    draws := s.draws + 1
    phase := .running }

/-- The resume after an incomplete stop (R208): the unconsumed words first, then `more`, and the counters the block
returned. -/
def resume (more : List Word) (s : State) : State := invoke (s.unconsumed ++ more) s.cycCarry s.cycSum s

/-- One action of the host, between invocations (R210, R222). A batch opened twice or closed when none is open breaks
the discipline of R24 and faults by name (log 19). -/
def hostAct (a : HostAction) (s : State) : Result :=
  match a with
  | .beginBatch => if s.batchOpen then .fault .overlappingBatch else .next { s with batchOpen := true }
  | .endBatch => if s.batchOpen then .next { s with batchOpen := false } else .fault .unmatchedEndBatch
  | .invoke words carry sum => .next (invoke words carry sum s)
  | .resume more => .next (resume more s)
  | .writeStatusHost bits =>
    .next { s with status := statusWord bits (statusMchk s.status) (statusMset s.status) (statusTex s.status) }

end Sys2Proof.Machine
end

