-- ==== Sys2Proof/Machine/Fill.lean ====
section
/-! DEFINITION. FILL (R113). -/

namespace Sys2Proof.Machine

/-- FILL, 0x02 (R113): only the cost of the rounded area is accounted. The rounded x (`fillBlockX`) and y are used by
nothing (log 27). -/
def execFill (_x _y w h : Nat) (s : State) : Result := .next (retire 0x02#8 (fillArea w h) s)

end Sys2Proof.Machine
end

