-- ==== Sys2Proof/Machine/Line.lean ====
section
/-! DEFINITION. The line range 0x40 to 0x5F: two drawn opcodes (R181, R182) and 30 acknowledged ones (R183). -/

namespace Sys2Proof.Machine

/-- The endpoints in order: the left one first, on equal x the command's order (R180). -/
def orderEndpoints (p0 : Vertex) (k0 : Rgb) (p1 : Vertex) (k1 : Rgb) : (Vertex × Rgb) × (Vertex × Rgb) :=
  if p1.x < p0.x then ((p1, k1), (p0, k0)) else ((p0, k0), (p1, k1))

/-- The one-pixel offset, from the up/down orientation alone (R180): a horizontal segment is "down". -/
def thinOffset (a b : Vertex) : Int × Int := if b.y < a.y then (1, 1) else (-1, 1)

/-- The default `lineQuad` (R180, DECIDED D17, D18, D29; log 15): two triangles of six coloured points. -/
def lineQuad (p0 : Vertex) (k0 : Rgb) (p1 : Vertex) (k1 : Rgb) : List (Vertex × Rgb) :=
  let a := (orderEndpoints p0 k0 p1 k1).1
  let b := (orderEndpoints p0 k0 p1 k1).2
  let d := thinOffset a.1 b.1
  let a' := (Vertex.plus a.1 d.1 d.2, a.2)
  let b' := (Vertex.plus b.1 d.1 d.2, b.2)
  [a, b, b', a, b', a']

/-- LINE_F2, 0x40 (R181). -/
def execLineF2 (c : Colour) (v0 v1 : Vertex) (s : State) : Result :=
  emitPrimitive 0x40#8 .flat (lineQuad v0 (rgb c) v1 (rgb c)) s

/-- LINE_G2, 0x50 (R182): the colours follow their endpoints. -/
def execLineG2 (c0 : Colour) (v0 : Vertex) (c1 : Colour) (v1 : Vertex) (s : State) : Result :=
  emitPrimitive 0x50#8 .gouraud (lineQuad v0 (rgb c0) v1 (rgb c1)) s

/-! LINE_ACK (R183): acknowledged, not drawn. -/

def execLineAck41 (s : State) : Result := acknowledge 0x41#8 s
def execLineAck42 (s : State) : Result := acknowledge 0x42#8 s
def execLineAck43 (s : State) : Result := acknowledge 0x43#8 s
def execLineAck44 (s : State) : Result := acknowledge 0x44#8 s
def execLineAck45 (s : State) : Result := acknowledge 0x45#8 s
def execLineAck46 (s : State) : Result := acknowledge 0x46#8 s
def execLineAck47 (s : State) : Result := acknowledge 0x47#8 s
def execLineAck48 (s : State) : Result := acknowledge 0x48#8 s
def execLineAck49 (s : State) : Result := acknowledge 0x49#8 s
def execLineAck4A (s : State) : Result := acknowledge 0x4A#8 s
def execLineAck4B (s : State) : Result := acknowledge 0x4B#8 s
def execLineAck4C (s : State) : Result := acknowledge 0x4C#8 s
def execLineAck4D (s : State) : Result := acknowledge 0x4D#8 s
def execLineAck4E (s : State) : Result := acknowledge 0x4E#8 s
def execLineAck4F (s : State) : Result := acknowledge 0x4F#8 s
def execLineAck51 (s : State) : Result := acknowledge 0x51#8 s
def execLineAck52 (s : State) : Result := acknowledge 0x52#8 s
def execLineAck53 (s : State) : Result := acknowledge 0x53#8 s
def execLineAck54 (s : State) : Result := acknowledge 0x54#8 s
def execLineAck55 (s : State) : Result := acknowledge 0x55#8 s
def execLineAck56 (s : State) : Result := acknowledge 0x56#8 s
def execLineAck57 (s : State) : Result := acknowledge 0x57#8 s
def execLineAck58 (s : State) : Result := acknowledge 0x58#8 s
def execLineAck59 (s : State) : Result := acknowledge 0x59#8 s
def execLineAck5A (s : State) : Result := acknowledge 0x5A#8 s
def execLineAck5B (s : State) : Result := acknowledge 0x5B#8 s
def execLineAck5C (s : State) : Result := acknowledge 0x5C#8 s
def execLineAck5D (s : State) : Result := acknowledge 0x5D#8 s
def execLineAck5E (s : State) : Result := acknowledge 0x5E#8 s
def execLineAck5F (s : State) : Result := acknowledge 0x5F#8 s

end Sys2Proof.Machine
end

