-- ==== Sys2Proof/Machine/Polygon.lean ====
section
/-! DEFINITION. The polygon range 0x20 to 0x3F: four drawn opcodes (R170 to R173) and 28 acknowledged ones (R174). -/

namespace Sys2Proof.Machine

/-- POLY_F3, 0x20 (R170). -/
def execPolyF3 (c : Colour) (v0 v1 v2 : Vertex) (s : State) : Result :=
  emitPrimitive 0x20#8 .flat [(v0, rgb c), (v1, rgb c), (v2, rgb c)] s

/-- POLY_F4, 0x28 (R171). -/
def execPolyF4 (c : Colour) (v0 v1 v2 v3 : Vertex) (s : State) : Result :=
  emitPrimitive 0x28#8 .flat [(v0, rgb c), (v1, rgb c), (v2, rgb c), (v3, rgb c)] s

/-- POLY_G3, 0x30 (R172). -/
def execPolyG3 (c0 : Colour) (v0 : Vertex) (c1 : Colour) (v1 : Vertex) (c2 : Colour) (v2 : Vertex) (s : State) :
    Result :=
  emitPrimitive 0x30#8 .gouraud [(v0, rgb c0), (v1, rgb c1), (v2, rgb c2)] s

/-- POLY_G4, 0x38 (R173). -/
def execPolyG4 (c0 : Colour) (v0 : Vertex) (c1 : Colour) (v1 : Vertex) (c2 : Colour) (v2 : Vertex) (c3 : Colour)
    (v3 : Vertex) (s : State) : Result :=
  emitPrimitive 0x38#8 .gouraud [(v0, rgb c0), (v1, rgb c1), (v2, rgb c2), (v3, rgb c3)] s

/-! POLY_ACK (R174): acknowledged but not drawn. -/

def execPolyAck21 (s : State) : Result := acknowledge 0x21#8 s
def execPolyAck22 (s : State) : Result := acknowledge 0x22#8 s
def execPolyAck23 (s : State) : Result := acknowledge 0x23#8 s
def execPolyAck24 (s : State) : Result := acknowledge 0x24#8 s
def execPolyAck25 (s : State) : Result := acknowledge 0x25#8 s
def execPolyAck26 (s : State) : Result := acknowledge 0x26#8 s
def execPolyAck27 (s : State) : Result := acknowledge 0x27#8 s
def execPolyAck29 (s : State) : Result := acknowledge 0x29#8 s
def execPolyAck2A (s : State) : Result := acknowledge 0x2A#8 s
def execPolyAck2B (s : State) : Result := acknowledge 0x2B#8 s
def execPolyAck2C (s : State) : Result := acknowledge 0x2C#8 s
def execPolyAck2D (s : State) : Result := acknowledge 0x2D#8 s
def execPolyAck2E (s : State) : Result := acknowledge 0x2E#8 s
def execPolyAck2F (s : State) : Result := acknowledge 0x2F#8 s
def execPolyAck31 (s : State) : Result := acknowledge 0x31#8 s
def execPolyAck32 (s : State) : Result := acknowledge 0x32#8 s
def execPolyAck33 (s : State) : Result := acknowledge 0x33#8 s
def execPolyAck34 (s : State) : Result := acknowledge 0x34#8 s
def execPolyAck35 (s : State) : Result := acknowledge 0x35#8 s
def execPolyAck36 (s : State) : Result := acknowledge 0x36#8 s
def execPolyAck37 (s : State) : Result := acknowledge 0x37#8 s
def execPolyAck39 (s : State) : Result := acknowledge 0x39#8 s
def execPolyAck3A (s : State) : Result := acknowledge 0x3A#8 s
def execPolyAck3B (s : State) : Result := acknowledge 0x3B#8 s
def execPolyAck3C (s : State) : Result := acknowledge 0x3C#8 s
def execPolyAck3D (s : State) : Result := acknowledge 0x3D#8 s
def execPolyAck3E (s : State) : Result := acknowledge 0x3E#8 s
def execPolyAck3F (s : State) : Result := acknowledge 0x3F#8 s

end Sys2Proof.Machine
end

