-- ==== Sys2Proof/Machine/Rectangle.lean ====
section
/-! DEFINITION. The rectangle range 0x60 to 0x7F: one drawn opcode (R190) and 31 acknowledged ones (R191). -/

namespace Sys2Proof.Machine

/-- RECT_F, 0x60 (R190): top-left, top-right, bottom-left, bottom-right; the far corners are `x + w` and `y + h`. -/
def execRectF (c : Colour) (origin : Vertex) (w h : Nat) (s : State) : Result :=
  emitPrimitive 0x60#8 .flat
    [(origin, rgb c), (Vertex.plus origin w 0, rgb c), (Vertex.plus origin 0 h, rgb c),
      (Vertex.plus origin w h, rgb c)] s

/-! RECT_ACK (R191): acknowledged, not drawn. -/

def execRectAck61 (s : State) : Result := acknowledge 0x61#8 s
def execRectAck62 (s : State) : Result := acknowledge 0x62#8 s
def execRectAck63 (s : State) : Result := acknowledge 0x63#8 s
def execRectAck64 (s : State) : Result := acknowledge 0x64#8 s
def execRectAck65 (s : State) : Result := acknowledge 0x65#8 s
def execRectAck66 (s : State) : Result := acknowledge 0x66#8 s
def execRectAck67 (s : State) : Result := acknowledge 0x67#8 s
def execRectAck68 (s : State) : Result := acknowledge 0x68#8 s
def execRectAck69 (s : State) : Result := acknowledge 0x69#8 s
def execRectAck6A (s : State) : Result := acknowledge 0x6A#8 s
def execRectAck6B (s : State) : Result := acknowledge 0x6B#8 s
def execRectAck6C (s : State) : Result := acknowledge 0x6C#8 s
def execRectAck6D (s : State) : Result := acknowledge 0x6D#8 s
def execRectAck6E (s : State) : Result := acknowledge 0x6E#8 s
def execRectAck6F (s : State) : Result := acknowledge 0x6F#8 s
def execRectAck70 (s : State) : Result := acknowledge 0x70#8 s
def execRectAck71 (s : State) : Result := acknowledge 0x71#8 s
def execRectAck72 (s : State) : Result := acknowledge 0x72#8 s
def execRectAck73 (s : State) : Result := acknowledge 0x73#8 s
def execRectAck74 (s : State) : Result := acknowledge 0x74#8 s
def execRectAck75 (s : State) : Result := acknowledge 0x75#8 s
def execRectAck76 (s : State) : Result := acknowledge 0x76#8 s
def execRectAck77 (s : State) : Result := acknowledge 0x77#8 s
def execRectAck78 (s : State) : Result := acknowledge 0x78#8 s
def execRectAck79 (s : State) : Result := acknowledge 0x79#8 s
def execRectAck7A (s : State) : Result := acknowledge 0x7A#8 s
def execRectAck7B (s : State) : Result := acknowledge 0x7B#8 s
def execRectAck7C (s : State) : Result := acknowledge 0x7C#8 s
def execRectAck7D (s : State) : Result := acknowledge 0x7D#8 s
def execRectAck7E (s : State) : Result := acknowledge 0x7E#8 s
def execRectAck7F (s : State) : Result := acknowledge 0x7F#8 s

end Sys2Proof.Machine
end

