-- ==== Sys2Proof/Machine/StateSetting.lean ====
section
/-! DEFINITION. The six one-word commands 0xE1 to 0xE6, the only writers of the persistent registers (R17, R130 to
R135). Each takes effect at once (R47). -/

namespace Sys2Proof.Machine

/-- TPAGE, 0xE1 (R130). -/
def execTpage (tp : Nat) (s : State) : Result :=
  .next (retire 0xE1#8 0 { s with texStat := BitVec.ofNat 11 tp })

/-- TWIN, 0xE2 (R131): accepted, effect not implemented. -/
def execTwin (s : State) : Result := acknowledge 0xE2#8 s

/-- CLIP_TL, 0xE3 (R132). -/
def execClipTl (x y : Nat) (s : State) : Result :=
  .next (retire 0xE3#8 0 { s with clipX1 := BitVec.ofNat 10 x, clipY1 := BitVec.ofNat 9 y })

/-- CLIP_BR, 0xE4 (R133): stored, read by no rule (R13). -/
def execClipBr (x y : Nat) (s : State) : Result :=
  .next (retire 0xE4#8 0 { s with clipX2 := BitVec.ofNat 10 x, clipY2 := BitVec.ofNat 9 y })

/-- DRAWOFS, 0xE5 (R134). -/
def execDrawofs (dx dy : Int) (s : State) : Result :=
  .next (retire 0xE5#8 0 { s with ofsX := BitVec.ofInt 11 dx, ofsY := BitVec.ofInt 11 dy })

/-- MASKBITS, 0xE6 (R135): the flags are tracked, not enforced (R229). -/
def execMaskbits (set chk : Bool) (s : State) : Result := .next (retire 0xE6#8 0 (writeMaskFlags set chk s))

end Sys2Proof.Machine
end

