-- ==== Sys2Proof/Machine/Transfer.lean ====
section
/-! DEFINITION. The transfer ranges: acknowledged and skipped by their fixed length, no data moved (R46, R110 to R112). -/

namespace Sys2Proof.Machine

/-! XFER_VV, 0x80 to 0x9F (R110). -/

def execXferVv80 (s : State) : Result := acknowledge 0x80#8 s
def execXferVv81 (s : State) : Result := acknowledge 0x81#8 s
def execXferVv82 (s : State) : Result := acknowledge 0x82#8 s
def execXferVv83 (s : State) : Result := acknowledge 0x83#8 s
def execXferVv84 (s : State) : Result := acknowledge 0x84#8 s
def execXferVv85 (s : State) : Result := acknowledge 0x85#8 s
def execXferVv86 (s : State) : Result := acknowledge 0x86#8 s
def execXferVv87 (s : State) : Result := acknowledge 0x87#8 s
def execXferVv88 (s : State) : Result := acknowledge 0x88#8 s
def execXferVv89 (s : State) : Result := acknowledge 0x89#8 s
def execXferVv8A (s : State) : Result := acknowledge 0x8A#8 s
def execXferVv8B (s : State) : Result := acknowledge 0x8B#8 s
def execXferVv8C (s : State) : Result := acknowledge 0x8C#8 s
def execXferVv8D (s : State) : Result := acknowledge 0x8D#8 s
def execXferVv8E (s : State) : Result := acknowledge 0x8E#8 s
def execXferVv8F (s : State) : Result := acknowledge 0x8F#8 s
def execXferVv90 (s : State) : Result := acknowledge 0x90#8 s
def execXferVv91 (s : State) : Result := acknowledge 0x91#8 s
def execXferVv92 (s : State) : Result := acknowledge 0x92#8 s
def execXferVv93 (s : State) : Result := acknowledge 0x93#8 s
def execXferVv94 (s : State) : Result := acknowledge 0x94#8 s
def execXferVv95 (s : State) : Result := acknowledge 0x95#8 s
def execXferVv96 (s : State) : Result := acknowledge 0x96#8 s
def execXferVv97 (s : State) : Result := acknowledge 0x97#8 s
def execXferVv98 (s : State) : Result := acknowledge 0x98#8 s
def execXferVv99 (s : State) : Result := acknowledge 0x99#8 s
def execXferVv9A (s : State) : Result := acknowledge 0x9A#8 s
def execXferVv9B (s : State) : Result := acknowledge 0x9B#8 s
def execXferVv9C (s : State) : Result := acknowledge 0x9C#8 s
def execXferVv9D (s : State) : Result := acknowledge 0x9D#8 s
def execXferVv9E (s : State) : Result := acknowledge 0x9E#8 s
def execXferVv9F (s : State) : Result := acknowledge 0x9F#8 s

/-! XFER_CV, 0xA0 to 0xBF (R111): no image data is consumed. -/

def execXferCvA0 (s : State) : Result := acknowledge 0xA0#8 s
def execXferCvA1 (s : State) : Result := acknowledge 0xA1#8 s
def execXferCvA2 (s : State) : Result := acknowledge 0xA2#8 s
def execXferCvA3 (s : State) : Result := acknowledge 0xA3#8 s
def execXferCvA4 (s : State) : Result := acknowledge 0xA4#8 s
def execXferCvA5 (s : State) : Result := acknowledge 0xA5#8 s
def execXferCvA6 (s : State) : Result := acknowledge 0xA6#8 s
def execXferCvA7 (s : State) : Result := acknowledge 0xA7#8 s
def execXferCvA8 (s : State) : Result := acknowledge 0xA8#8 s
def execXferCvA9 (s : State) : Result := acknowledge 0xA9#8 s
def execXferCvAA (s : State) : Result := acknowledge 0xAA#8 s
def execXferCvAB (s : State) : Result := acknowledge 0xAB#8 s
def execXferCvAC (s : State) : Result := acknowledge 0xAC#8 s
def execXferCvAD (s : State) : Result := acknowledge 0xAD#8 s
def execXferCvAE (s : State) : Result := acknowledge 0xAE#8 s
def execXferCvAF (s : State) : Result := acknowledge 0xAF#8 s
def execXferCvB0 (s : State) : Result := acknowledge 0xB0#8 s
def execXferCvB1 (s : State) : Result := acknowledge 0xB1#8 s
def execXferCvB2 (s : State) : Result := acknowledge 0xB2#8 s
def execXferCvB3 (s : State) : Result := acknowledge 0xB3#8 s
def execXferCvB4 (s : State) : Result := acknowledge 0xB4#8 s
def execXferCvB5 (s : State) : Result := acknowledge 0xB5#8 s
def execXferCvB6 (s : State) : Result := acknowledge 0xB6#8 s
def execXferCvB7 (s : State) : Result := acknowledge 0xB7#8 s
def execXferCvB8 (s : State) : Result := acknowledge 0xB8#8 s
def execXferCvB9 (s : State) : Result := acknowledge 0xB9#8 s
def execXferCvBA (s : State) : Result := acknowledge 0xBA#8 s
def execXferCvBB (s : State) : Result := acknowledge 0xBB#8 s
def execXferCvBC (s : State) : Result := acknowledge 0xBC#8 s
def execXferCvBD (s : State) : Result := acknowledge 0xBD#8 s
def execXferCvBE (s : State) : Result := acknowledge 0xBE#8 s
def execXferCvBF (s : State) : Result := acknowledge 0xBF#8 s

/-! XFER_VC, 0xC0 to 0xDF (R112): no read-back data is produced. -/

def execXferVcC0 (s : State) : Result := acknowledge 0xC0#8 s
def execXferVcC1 (s : State) : Result := acknowledge 0xC1#8 s
def execXferVcC2 (s : State) : Result := acknowledge 0xC2#8 s
def execXferVcC3 (s : State) : Result := acknowledge 0xC3#8 s
def execXferVcC4 (s : State) : Result := acknowledge 0xC4#8 s
def execXferVcC5 (s : State) : Result := acknowledge 0xC5#8 s
def execXferVcC6 (s : State) : Result := acknowledge 0xC6#8 s
def execXferVcC7 (s : State) : Result := acknowledge 0xC7#8 s
def execXferVcC8 (s : State) : Result := acknowledge 0xC8#8 s
def execXferVcC9 (s : State) : Result := acknowledge 0xC9#8 s
def execXferVcCA (s : State) : Result := acknowledge 0xCA#8 s
def execXferVcCB (s : State) : Result := acknowledge 0xCB#8 s
def execXferVcCC (s : State) : Result := acknowledge 0xCC#8 s
def execXferVcCD (s : State) : Result := acknowledge 0xCD#8 s
def execXferVcCE (s : State) : Result := acknowledge 0xCE#8 s
def execXferVcCF (s : State) : Result := acknowledge 0xCF#8 s
def execXferVcD0 (s : State) : Result := acknowledge 0xD0#8 s
def execXferVcD1 (s : State) : Result := acknowledge 0xD1#8 s
def execXferVcD2 (s : State) : Result := acknowledge 0xD2#8 s
def execXferVcD3 (s : State) : Result := acknowledge 0xD3#8 s
def execXferVcD4 (s : State) : Result := acknowledge 0xD4#8 s
def execXferVcD5 (s : State) : Result := acknowledge 0xD5#8 s
def execXferVcD6 (s : State) : Result := acknowledge 0xD6#8 s
def execXferVcD7 (s : State) : Result := acknowledge 0xD7#8 s
def execXferVcD8 (s : State) : Result := acknowledge 0xD8#8 s
def execXferVcD9 (s : State) : Result := acknowledge 0xD9#8 s
def execXferVcDA (s : State) : Result := acknowledge 0xDA#8 s
def execXferVcDB (s : State) : Result := acknowledge 0xDB#8 s
def execXferVcDC (s : State) : Result := acknowledge 0xDC#8 s
def execXferVcDD (s : State) : Result := acknowledge 0xDD#8 s
def execXferVcDE (s : State) : Result := acknowledge 0xDE#8 s
def execXferVcDF (s : State) : Result := acknowledge 0xDF#8 s

end Sys2Proof.Machine
end

