-- ==== Sys2Proof/Machine/Unknown.lean ====
section
/-! DEFINITION. NOP_UNK, the 57 opcodes the map gives no other operation (R114): acknowledged, skipped, never fatal. -/

namespace Sys2Proof.Machine

def execNopUnk00 (s : State) : Result := acknowledge 0x00#8 s
def execNopUnk01 (s : State) : Result := acknowledge 0x01#8 s
def execNopUnk03 (s : State) : Result := acknowledge 0x03#8 s
def execNopUnk04 (s : State) : Result := acknowledge 0x04#8 s
def execNopUnk05 (s : State) : Result := acknowledge 0x05#8 s
def execNopUnk06 (s : State) : Result := acknowledge 0x06#8 s
def execNopUnk07 (s : State) : Result := acknowledge 0x07#8 s
def execNopUnk08 (s : State) : Result := acknowledge 0x08#8 s
def execNopUnk09 (s : State) : Result := acknowledge 0x09#8 s
def execNopUnk0A (s : State) : Result := acknowledge 0x0A#8 s
def execNopUnk0B (s : State) : Result := acknowledge 0x0B#8 s
def execNopUnk0C (s : State) : Result := acknowledge 0x0C#8 s
def execNopUnk0D (s : State) : Result := acknowledge 0x0D#8 s
def execNopUnk0E (s : State) : Result := acknowledge 0x0E#8 s
def execNopUnk0F (s : State) : Result := acknowledge 0x0F#8 s
def execNopUnk10 (s : State) : Result := acknowledge 0x10#8 s
def execNopUnk11 (s : State) : Result := acknowledge 0x11#8 s
def execNopUnk12 (s : State) : Result := acknowledge 0x12#8 s
def execNopUnk13 (s : State) : Result := acknowledge 0x13#8 s
def execNopUnk14 (s : State) : Result := acknowledge 0x14#8 s
def execNopUnk15 (s : State) : Result := acknowledge 0x15#8 s
def execNopUnk16 (s : State) : Result := acknowledge 0x16#8 s
def execNopUnk17 (s : State) : Result := acknowledge 0x17#8 s
def execNopUnk18 (s : State) : Result := acknowledge 0x18#8 s
def execNopUnk19 (s : State) : Result := acknowledge 0x19#8 s
def execNopUnk1A (s : State) : Result := acknowledge 0x1A#8 s
def execNopUnk1B (s : State) : Result := acknowledge 0x1B#8 s
def execNopUnk1C (s : State) : Result := acknowledge 0x1C#8 s
def execNopUnk1D (s : State) : Result := acknowledge 0x1D#8 s
def execNopUnk1E (s : State) : Result := acknowledge 0x1E#8 s
def execNopUnk1F (s : State) : Result := acknowledge 0x1F#8 s
def execNopUnkE0 (s : State) : Result := acknowledge 0xE0#8 s
def execNopUnkE7 (s : State) : Result := acknowledge 0xE7#8 s
def execNopUnkE8 (s : State) : Result := acknowledge 0xE8#8 s
def execNopUnkE9 (s : State) : Result := acknowledge 0xE9#8 s
def execNopUnkEA (s : State) : Result := acknowledge 0xEA#8 s
def execNopUnkEB (s : State) : Result := acknowledge 0xEB#8 s
def execNopUnkEC (s : State) : Result := acknowledge 0xEC#8 s
def execNopUnkED (s : State) : Result := acknowledge 0xED#8 s
def execNopUnkEE (s : State) : Result := acknowledge 0xEE#8 s
def execNopUnkEF (s : State) : Result := acknowledge 0xEF#8 s
def execNopUnkF0 (s : State) : Result := acknowledge 0xF0#8 s
def execNopUnkF1 (s : State) : Result := acknowledge 0xF1#8 s
def execNopUnkF2 (s : State) : Result := acknowledge 0xF2#8 s
def execNopUnkF3 (s : State) : Result := acknowledge 0xF3#8 s
def execNopUnkF4 (s : State) : Result := acknowledge 0xF4#8 s
def execNopUnkF5 (s : State) : Result := acknowledge 0xF5#8 s
def execNopUnkF6 (s : State) : Result := acknowledge 0xF6#8 s
def execNopUnkF7 (s : State) : Result := acknowledge 0xF7#8 s
def execNopUnkF8 (s : State) : Result := acknowledge 0xF8#8 s
def execNopUnkF9 (s : State) : Result := acknowledge 0xF9#8 s
def execNopUnkFA (s : State) : Result := acknowledge 0xFA#8 s
def execNopUnkFB (s : State) : Result := acknowledge 0xFB#8 s
def execNopUnkFC (s : State) : Result := acknowledge 0xFC#8 s
def execNopUnkFD (s : State) : Result := acknowledge 0xFD#8 s
def execNopUnkFE (s : State) : Result := acknowledge 0xFE#8 s
def execNopUnkFF (s : State) : Result := acknowledge 0xFF#8 s

end Sys2Proof.Machine
end

