-- ==== Sys2Proof/Machine/Dispatch.lean ====
section
/-! DEFINITION. Dispatch on the instruction alone, all 256 opcodes (R73, R97): one arm per constructor. -/

namespace Sys2Proof.Machine

def exec (i : Instr) (s : State) : Host.Outcome State Fault Refusal :=
  match i with
  | .nopUnk00 => Sys2Proof.Machine.execNopUnk00 s
  | .nopUnk01 => Sys2Proof.Machine.execNopUnk01 s
  | .fill x y w h => Sys2Proof.Machine.execFill x y w h s
  | .nopUnk03 => Sys2Proof.Machine.execNopUnk03 s
  | .nopUnk04 => Sys2Proof.Machine.execNopUnk04 s
  | .nopUnk05 => Sys2Proof.Machine.execNopUnk05 s
  | .nopUnk06 => Sys2Proof.Machine.execNopUnk06 s
  | .nopUnk07 => Sys2Proof.Machine.execNopUnk07 s
  | .nopUnk08 => Sys2Proof.Machine.execNopUnk08 s
  | .nopUnk09 => Sys2Proof.Machine.execNopUnk09 s
  | .nopUnk0A => Sys2Proof.Machine.execNopUnk0A s
  | .nopUnk0B => Sys2Proof.Machine.execNopUnk0B s
  | .nopUnk0C => Sys2Proof.Machine.execNopUnk0C s
  | .nopUnk0D => Sys2Proof.Machine.execNopUnk0D s
  | .nopUnk0E => Sys2Proof.Machine.execNopUnk0E s
  | .nopUnk0F => Sys2Proof.Machine.execNopUnk0F s
  | .nopUnk10 => Sys2Proof.Machine.execNopUnk10 s
  | .nopUnk11 => Sys2Proof.Machine.execNopUnk11 s
  | .nopUnk12 => Sys2Proof.Machine.execNopUnk12 s
  | .nopUnk13 => Sys2Proof.Machine.execNopUnk13 s
  | .nopUnk14 => Sys2Proof.Machine.execNopUnk14 s
  | .nopUnk15 => Sys2Proof.Machine.execNopUnk15 s
  | .nopUnk16 => Sys2Proof.Machine.execNopUnk16 s
  | .nopUnk17 => Sys2Proof.Machine.execNopUnk17 s
  | .nopUnk18 => Sys2Proof.Machine.execNopUnk18 s
  | .nopUnk19 => Sys2Proof.Machine.execNopUnk19 s
  | .nopUnk1A => Sys2Proof.Machine.execNopUnk1A s
  | .nopUnk1B => Sys2Proof.Machine.execNopUnk1B s
  | .nopUnk1C => Sys2Proof.Machine.execNopUnk1C s
  | .nopUnk1D => Sys2Proof.Machine.execNopUnk1D s
  | .nopUnk1E => Sys2Proof.Machine.execNopUnk1E s
  | .nopUnk1F => Sys2Proof.Machine.execNopUnk1F s
  | .polyF3 c v0 v1 v2 => Sys2Proof.Machine.execPolyF3 c v0 v1 v2 s
  | .polyAck21 => Sys2Proof.Machine.execPolyAck21 s
  | .polyAck22 => Sys2Proof.Machine.execPolyAck22 s
  | .polyAck23 => Sys2Proof.Machine.execPolyAck23 s
  | .polyAck24 => Sys2Proof.Machine.execPolyAck24 s
  | .polyAck25 => Sys2Proof.Machine.execPolyAck25 s
  | .polyAck26 => Sys2Proof.Machine.execPolyAck26 s
  | .polyAck27 => Sys2Proof.Machine.execPolyAck27 s
  | .polyF4 c v0 v1 v2 v3 => Sys2Proof.Machine.execPolyF4 c v0 v1 v2 v3 s
  | .polyAck29 => Sys2Proof.Machine.execPolyAck29 s
  | .polyAck2A => Sys2Proof.Machine.execPolyAck2A s
  | .polyAck2B => Sys2Proof.Machine.execPolyAck2B s
  | .polyAck2C => Sys2Proof.Machine.execPolyAck2C s
  | .polyAck2D => Sys2Proof.Machine.execPolyAck2D s
  | .polyAck2E => Sys2Proof.Machine.execPolyAck2E s
  | .polyAck2F => Sys2Proof.Machine.execPolyAck2F s
  | .polyG3 c0 v0 c1 v1 c2 v2 => Sys2Proof.Machine.execPolyG3 c0 v0 c1 v1 c2 v2 s
  | .polyAck31 => Sys2Proof.Machine.execPolyAck31 s
  | .polyAck32 => Sys2Proof.Machine.execPolyAck32 s
  | .polyAck33 => Sys2Proof.Machine.execPolyAck33 s
  | .polyAck34 => Sys2Proof.Machine.execPolyAck34 s
  | .polyAck35 => Sys2Proof.Machine.execPolyAck35 s
  | .polyAck36 => Sys2Proof.Machine.execPolyAck36 s
  | .polyAck37 => Sys2Proof.Machine.execPolyAck37 s
  | .polyG4 c0 v0 c1 v1 c2 v2 c3 v3 => Sys2Proof.Machine.execPolyG4 c0 v0 c1 v1 c2 v2 c3 v3 s
  | .polyAck39 => Sys2Proof.Machine.execPolyAck39 s
  | .polyAck3A => Sys2Proof.Machine.execPolyAck3A s
  | .polyAck3B => Sys2Proof.Machine.execPolyAck3B s
  | .polyAck3C => Sys2Proof.Machine.execPolyAck3C s
  | .polyAck3D => Sys2Proof.Machine.execPolyAck3D s
  | .polyAck3E => Sys2Proof.Machine.execPolyAck3E s
  | .polyAck3F => Sys2Proof.Machine.execPolyAck3F s
  | .lineF2 c v0 v1 => Sys2Proof.Machine.execLineF2 c v0 v1 s
  | .lineAck41 => Sys2Proof.Machine.execLineAck41 s
  | .lineAck42 => Sys2Proof.Machine.execLineAck42 s
  | .lineAck43 => Sys2Proof.Machine.execLineAck43 s
  | .lineAck44 => Sys2Proof.Machine.execLineAck44 s
  | .lineAck45 => Sys2Proof.Machine.execLineAck45 s
  | .lineAck46 => Sys2Proof.Machine.execLineAck46 s
  | .lineAck47 => Sys2Proof.Machine.execLineAck47 s
  | .lineAck48 => Sys2Proof.Machine.execLineAck48 s
  | .lineAck49 => Sys2Proof.Machine.execLineAck49 s
  | .lineAck4A => Sys2Proof.Machine.execLineAck4A s
  | .lineAck4B => Sys2Proof.Machine.execLineAck4B s
  | .lineAck4C => Sys2Proof.Machine.execLineAck4C s
  | .lineAck4D => Sys2Proof.Machine.execLineAck4D s
  | .lineAck4E => Sys2Proof.Machine.execLineAck4E s
  | .lineAck4F => Sys2Proof.Machine.execLineAck4F s
  | .lineG2 c0 v0 c1 v1 => Sys2Proof.Machine.execLineG2 c0 v0 c1 v1 s
  | .lineAck51 => Sys2Proof.Machine.execLineAck51 s
  | .lineAck52 => Sys2Proof.Machine.execLineAck52 s
  | .lineAck53 => Sys2Proof.Machine.execLineAck53 s
  | .lineAck54 => Sys2Proof.Machine.execLineAck54 s
  | .lineAck55 => Sys2Proof.Machine.execLineAck55 s
  | .lineAck56 => Sys2Proof.Machine.execLineAck56 s
  | .lineAck57 => Sys2Proof.Machine.execLineAck57 s
  | .lineAck58 => Sys2Proof.Machine.execLineAck58 s
  | .lineAck59 => Sys2Proof.Machine.execLineAck59 s
  | .lineAck5A => Sys2Proof.Machine.execLineAck5A s
  | .lineAck5B => Sys2Proof.Machine.execLineAck5B s
  | .lineAck5C => Sys2Proof.Machine.execLineAck5C s
  | .lineAck5D => Sys2Proof.Machine.execLineAck5D s
  | .lineAck5E => Sys2Proof.Machine.execLineAck5E s
  | .lineAck5F => Sys2Proof.Machine.execLineAck5F s
  | .rectF c origin w h => Sys2Proof.Machine.execRectF c origin w h s
  | .rectAck61 => Sys2Proof.Machine.execRectAck61 s
  | .rectAck62 => Sys2Proof.Machine.execRectAck62 s
  | .rectAck63 => Sys2Proof.Machine.execRectAck63 s
  | .rectAck64 => Sys2Proof.Machine.execRectAck64 s
  | .rectAck65 => Sys2Proof.Machine.execRectAck65 s
  | .rectAck66 => Sys2Proof.Machine.execRectAck66 s
  | .rectAck67 => Sys2Proof.Machine.execRectAck67 s
  | .rectAck68 => Sys2Proof.Machine.execRectAck68 s
  | .rectAck69 => Sys2Proof.Machine.execRectAck69 s
  | .rectAck6A => Sys2Proof.Machine.execRectAck6A s
  | .rectAck6B => Sys2Proof.Machine.execRectAck6B s
  | .rectAck6C => Sys2Proof.Machine.execRectAck6C s
  | .rectAck6D => Sys2Proof.Machine.execRectAck6D s
  | .rectAck6E => Sys2Proof.Machine.execRectAck6E s
  | .rectAck6F => Sys2Proof.Machine.execRectAck6F s
  | .rectAck70 => Sys2Proof.Machine.execRectAck70 s
  | .rectAck71 => Sys2Proof.Machine.execRectAck71 s
  | .rectAck72 => Sys2Proof.Machine.execRectAck72 s
  | .rectAck73 => Sys2Proof.Machine.execRectAck73 s
  | .rectAck74 => Sys2Proof.Machine.execRectAck74 s
  | .rectAck75 => Sys2Proof.Machine.execRectAck75 s
  | .rectAck76 => Sys2Proof.Machine.execRectAck76 s
  | .rectAck77 => Sys2Proof.Machine.execRectAck77 s
  | .rectAck78 => Sys2Proof.Machine.execRectAck78 s
  | .rectAck79 => Sys2Proof.Machine.execRectAck79 s
  | .rectAck7A => Sys2Proof.Machine.execRectAck7A s
  | .rectAck7B => Sys2Proof.Machine.execRectAck7B s
  | .rectAck7C => Sys2Proof.Machine.execRectAck7C s
  | .rectAck7D => Sys2Proof.Machine.execRectAck7D s
  | .rectAck7E => Sys2Proof.Machine.execRectAck7E s
  | .rectAck7F => Sys2Proof.Machine.execRectAck7F s
  | .xferVv80 => Sys2Proof.Machine.execXferVv80 s
  | .xferVv81 => Sys2Proof.Machine.execXferVv81 s
  | .xferVv82 => Sys2Proof.Machine.execXferVv82 s
  | .xferVv83 => Sys2Proof.Machine.execXferVv83 s
  | .xferVv84 => Sys2Proof.Machine.execXferVv84 s
  | .xferVv85 => Sys2Proof.Machine.execXferVv85 s
  | .xferVv86 => Sys2Proof.Machine.execXferVv86 s
  | .xferVv87 => Sys2Proof.Machine.execXferVv87 s
  | .xferVv88 => Sys2Proof.Machine.execXferVv88 s
  | .xferVv89 => Sys2Proof.Machine.execXferVv89 s
  | .xferVv8A => Sys2Proof.Machine.execXferVv8A s
  | .xferVv8B => Sys2Proof.Machine.execXferVv8B s
  | .xferVv8C => Sys2Proof.Machine.execXferVv8C s
  | .xferVv8D => Sys2Proof.Machine.execXferVv8D s
  | .xferVv8E => Sys2Proof.Machine.execXferVv8E s
  | .xferVv8F => Sys2Proof.Machine.execXferVv8F s
  | .xferVv90 => Sys2Proof.Machine.execXferVv90 s
  | .xferVv91 => Sys2Proof.Machine.execXferVv91 s
  | .xferVv92 => Sys2Proof.Machine.execXferVv92 s
  | .xferVv93 => Sys2Proof.Machine.execXferVv93 s
  | .xferVv94 => Sys2Proof.Machine.execXferVv94 s
  | .xferVv95 => Sys2Proof.Machine.execXferVv95 s
  | .xferVv96 => Sys2Proof.Machine.execXferVv96 s
  | .xferVv97 => Sys2Proof.Machine.execXferVv97 s
  | .xferVv98 => Sys2Proof.Machine.execXferVv98 s
  | .xferVv99 => Sys2Proof.Machine.execXferVv99 s
  | .xferVv9A => Sys2Proof.Machine.execXferVv9A s
  | .xferVv9B => Sys2Proof.Machine.execXferVv9B s
  | .xferVv9C => Sys2Proof.Machine.execXferVv9C s
  | .xferVv9D => Sys2Proof.Machine.execXferVv9D s
  | .xferVv9E => Sys2Proof.Machine.execXferVv9E s
  | .xferVv9F => Sys2Proof.Machine.execXferVv9F s
  | .xferCvA0 => Sys2Proof.Machine.execXferCvA0 s
  | .xferCvA1 => Sys2Proof.Machine.execXferCvA1 s
  | .xferCvA2 => Sys2Proof.Machine.execXferCvA2 s
  | .xferCvA3 => Sys2Proof.Machine.execXferCvA3 s
  | .xferCvA4 => Sys2Proof.Machine.execXferCvA4 s
  | .xferCvA5 => Sys2Proof.Machine.execXferCvA5 s
  | .xferCvA6 => Sys2Proof.Machine.execXferCvA6 s
  | .xferCvA7 => Sys2Proof.Machine.execXferCvA7 s
  | .xferCvA8 => Sys2Proof.Machine.execXferCvA8 s
  | .xferCvA9 => Sys2Proof.Machine.execXferCvA9 s
  | .xferCvAA => Sys2Proof.Machine.execXferCvAA s
  | .xferCvAB => Sys2Proof.Machine.execXferCvAB s
  | .xferCvAC => Sys2Proof.Machine.execXferCvAC s
  | .xferCvAD => Sys2Proof.Machine.execXferCvAD s
  | .xferCvAE => Sys2Proof.Machine.execXferCvAE s
  | .xferCvAF => Sys2Proof.Machine.execXferCvAF s
  | .xferCvB0 => Sys2Proof.Machine.execXferCvB0 s
  | .xferCvB1 => Sys2Proof.Machine.execXferCvB1 s
  | .xferCvB2 => Sys2Proof.Machine.execXferCvB2 s
  | .xferCvB3 => Sys2Proof.Machine.execXferCvB3 s
  | .xferCvB4 => Sys2Proof.Machine.execXferCvB4 s
  | .xferCvB5 => Sys2Proof.Machine.execXferCvB5 s
  | .xferCvB6 => Sys2Proof.Machine.execXferCvB6 s
  | .xferCvB7 => Sys2Proof.Machine.execXferCvB7 s
  | .xferCvB8 => Sys2Proof.Machine.execXferCvB8 s
  | .xferCvB9 => Sys2Proof.Machine.execXferCvB9 s
  | .xferCvBA => Sys2Proof.Machine.execXferCvBA s
  | .xferCvBB => Sys2Proof.Machine.execXferCvBB s
  | .xferCvBC => Sys2Proof.Machine.execXferCvBC s
  | .xferCvBD => Sys2Proof.Machine.execXferCvBD s
  | .xferCvBE => Sys2Proof.Machine.execXferCvBE s
  | .xferCvBF => Sys2Proof.Machine.execXferCvBF s
  | .xferVcC0 => Sys2Proof.Machine.execXferVcC0 s
  | .xferVcC1 => Sys2Proof.Machine.execXferVcC1 s
  | .xferVcC2 => Sys2Proof.Machine.execXferVcC2 s
  | .xferVcC3 => Sys2Proof.Machine.execXferVcC3 s
  | .xferVcC4 => Sys2Proof.Machine.execXferVcC4 s
  | .xferVcC5 => Sys2Proof.Machine.execXferVcC5 s
  | .xferVcC6 => Sys2Proof.Machine.execXferVcC6 s
  | .xferVcC7 => Sys2Proof.Machine.execXferVcC7 s
  | .xferVcC8 => Sys2Proof.Machine.execXferVcC8 s
  | .xferVcC9 => Sys2Proof.Machine.execXferVcC9 s
  | .xferVcCA => Sys2Proof.Machine.execXferVcCA s
  | .xferVcCB => Sys2Proof.Machine.execXferVcCB s
  | .xferVcCC => Sys2Proof.Machine.execXferVcCC s
  | .xferVcCD => Sys2Proof.Machine.execXferVcCD s
  | .xferVcCE => Sys2Proof.Machine.execXferVcCE s
  | .xferVcCF => Sys2Proof.Machine.execXferVcCF s
  | .xferVcD0 => Sys2Proof.Machine.execXferVcD0 s
  | .xferVcD1 => Sys2Proof.Machine.execXferVcD1 s
  | .xferVcD2 => Sys2Proof.Machine.execXferVcD2 s
  | .xferVcD3 => Sys2Proof.Machine.execXferVcD3 s
  | .xferVcD4 => Sys2Proof.Machine.execXferVcD4 s
  | .xferVcD5 => Sys2Proof.Machine.execXferVcD5 s
  | .xferVcD6 => Sys2Proof.Machine.execXferVcD6 s
  | .xferVcD7 => Sys2Proof.Machine.execXferVcD7 s
  | .xferVcD8 => Sys2Proof.Machine.execXferVcD8 s
  | .xferVcD9 => Sys2Proof.Machine.execXferVcD9 s
  | .xferVcDA => Sys2Proof.Machine.execXferVcDA s
  | .xferVcDB => Sys2Proof.Machine.execXferVcDB s
  | .xferVcDC => Sys2Proof.Machine.execXferVcDC s
  | .xferVcDD => Sys2Proof.Machine.execXferVcDD s
  | .xferVcDE => Sys2Proof.Machine.execXferVcDE s
  | .xferVcDF => Sys2Proof.Machine.execXferVcDF s
  | .nopUnkE0 => Sys2Proof.Machine.execNopUnkE0 s
  | .tpage tp => Sys2Proof.Machine.execTpage tp s
  | .twin => Sys2Proof.Machine.execTwin s
  | .clipTl x y => Sys2Proof.Machine.execClipTl x y s
  | .clipBr x y => Sys2Proof.Machine.execClipBr x y s
  | .drawofs dx dy => Sys2Proof.Machine.execDrawofs dx dy s
  | .maskbits set chk => Sys2Proof.Machine.execMaskbits set chk s
  | .nopUnkE7 => Sys2Proof.Machine.execNopUnkE7 s
  | .nopUnkE8 => Sys2Proof.Machine.execNopUnkE8 s
  | .nopUnkE9 => Sys2Proof.Machine.execNopUnkE9 s
  | .nopUnkEA => Sys2Proof.Machine.execNopUnkEA s
  | .nopUnkEB => Sys2Proof.Machine.execNopUnkEB s
  | .nopUnkEC => Sys2Proof.Machine.execNopUnkEC s
  | .nopUnkED => Sys2Proof.Machine.execNopUnkED s
  | .nopUnkEE => Sys2Proof.Machine.execNopUnkEE s
  | .nopUnkEF => Sys2Proof.Machine.execNopUnkEF s
  | .nopUnkF0 => Sys2Proof.Machine.execNopUnkF0 s
  | .nopUnkF1 => Sys2Proof.Machine.execNopUnkF1 s
  | .nopUnkF2 => Sys2Proof.Machine.execNopUnkF2 s
  | .nopUnkF3 => Sys2Proof.Machine.execNopUnkF3 s
  | .nopUnkF4 => Sys2Proof.Machine.execNopUnkF4 s
  | .nopUnkF5 => Sys2Proof.Machine.execNopUnkF5 s
  | .nopUnkF6 => Sys2Proof.Machine.execNopUnkF6 s
  | .nopUnkF7 => Sys2Proof.Machine.execNopUnkF7 s
  | .nopUnkF8 => Sys2Proof.Machine.execNopUnkF8 s
  | .nopUnkF9 => Sys2Proof.Machine.execNopUnkF9 s
  | .nopUnkFA => Sys2Proof.Machine.execNopUnkFA s
  | .nopUnkFB => Sys2Proof.Machine.execNopUnkFB s
  | .nopUnkFC => Sys2Proof.Machine.execNopUnkFC s
  | .nopUnkFD => Sys2Proof.Machine.execNopUnkFD s
  | .nopUnkFE => Sys2Proof.Machine.execNopUnkFE s
  | .nopUnkFF => Sys2Proof.Machine.execNopUnkFF s

end Sys2Proof.Machine
end

