-- ==== Sys2Proof/Machine/Step.lean ====
section
/-! DEFINITION. One step of the machine: within an invocation one command, or its end (R8, 40_decode_loop); between
invocations one action of the host. -/

namespace Sys2Proof.Machine

/-- One step within an invocation (R92 to R100): the exit, the incomplete stop, or the packet copy and the whole
execution of one command. -/
def stepCommand (s : State) : Result :=
  match fetch s with
  | .bufferEnd => .next (exitInvocation s)
  | .noWord => .fault .posBeyondBuffer
  | .incomplete => .next (stopIncomplete s)
  | .command operands => exec (decodePacket (packetCopy operands s).pkt) (packetCopy operands s)

/-- One step between invocations: the next action of the host; with nothing to do the block stays idle and keeps
everything (R212, R220; log 18). -/
def stepHost (s : State) : Result :=
  match s.script with
  | [] => .next s
  | a :: rest => hostAct a { s with script := rest }

/-- One step. The host acts only while the block is idle (R104). -/
def step (s : State) : Host.Outcome State Fault Refusal :=
  match s.phase with
  | .running => stepCommand s
  | .idle => stepHost s

/-- `n` steps, stopping at the first fault or refusal. -/
def run : Nat → State → Result
  | 0, s => .next s
  | n + 1, s =>
    match step s with
    | .next t => run n t
    | .fault r => .fault r
    | .refused r => .refused r

/-- `s` after the host's boot duties (R222; log 20): a batch open, and an invocation under way whose buffer holds, at
`POS`, the words of the host's table number, which the next step fetches. The words before `POS` are kept. -/
def State.withFetchWord (s : State) (nbits w : Nat) : State :=
  { s with
    phase := .running
    batchOpen := true
    buf := s.buf.take s.pos ++ List.replicate (s.pos - s.buf.length) 0#32 ++ tableWords nbits w }

end Sys2Proof.Machine
end

