-- ==== Sys2Proof/Safety.lean ====
section
/-! DEFINITION. The terms claims are stated in: views of the state for frames, whole commands, the shape of the output
stream, the invariants, the classes of opcodes, and what a disciplined host is. -/

namespace Sys2Proof.Machine

/-! ### Views for frames -/

/-- The nine persistent registers of a state (R10, R17). -/
def State.persistent (s : State) : Persistent where
  texStat := s.texStat
  clipX1 := s.clipX1
  clipY1 := s.clipY1
  clipX2 := s.clipX2
  clipY2 := s.clipY2
  ofsX := s.ofsX
  ofsY := s.ofsY
  maskSet := s.maskSet
  maskChk := s.maskChk

/-- What no command writes: `STATUS`, `BUF`, `BATCH_OPEN`, the phase, and the host's script (R16, R22, R24, R104). -/
structure SameSurroundings (s t : State) : Prop where
  status : t.status = s.status
  buf : t.buf = s.buf
  batchOpen : t.batchOpen = s.batchOpen
  phase : t.phase = s.phase
  script : t.script = s.script

/-- The cost of `(op, area)` has been accounted under the configured scheme (R98). -/
def Accounted (op : Byte) (area : Nat) (s t : State) : Prop :=
  match Config.acct with
  | .direct => t.cycSum = s.cycSum + Config.cost op area ∧ t.cycCarry = s.cycCarry
  | .deferred => t.cycSum = s.cycSum + s.cycCarry ∧ t.cycCarry = Config.cost op area

/-- The command `op` has been consumed (R98, R99): its cost accounted, `LASTOP` and `POS` advanced, and nothing around
it changed. `PKT` is not mentioned: it holds no value between steps (R18). -/
structure Consumed (op : Byte) (area : Nat) (s t : State) : Prop where
  pos : t.pos = s.pos + 1 + len op
  lastOp : t.lastOp = .opcode op
  cycles : Accounted op area s t
  around : SameSurroundings s t

/-! ### Classes of opcodes (R73) -/

/-- One of the seven drawn opcodes (Glossary of 00_scope). -/
def isDrawn (i : Instr) : Bool := [0x20#8, 0x28#8, 0x30#8, 0x38#8, 0x40#8, 0x50#8, 0x60#8].contains (opcodeOf i)

/-- One of the five opcodes that write a persistent register (R17). -/
def isWriter (i : Instr) : Bool := [0xE1#8, 0xE3#8, 0xE4#8, 0xE5#8, 0xE6#8].contains (opcodeOf i)

/-- Every other opcode but FILL: consumed without any other effect (R110 to R112, R114, R131, R174, R183, R191). -/
def isAcknowledged (i : Instr) : Bool := !isDrawn i && !isWriter i && opcodeOf i != 0x02#8

/-! ### Whole commands (R60, R101) -/

/-- One whole command: an opcode word and as many operand words as its opcode has (R60). -/
def IsCommand (c : List Word) : Prop := c.length = 1 + len (opcodeField (c.headD 0))

/-- A concatenation of whole commands (R101). -/
def WholeCommands (ws : List Word) : Prop := ∃ cs : List (List Word), (∀ c ∈ cs, IsCommand c) ∧ ws = cs.flatten

/-- The instruction a whole command holds. -/
def instrOf (c : List Word) : Instr := decodePacket (copyWords c (Vector.replicate 16 0#32))

/-- The instructions executed one after the other, stopping at the first that does not complete (R47). -/
def execAll : List Instr → State → Result
  | [], s => .next s
  | i :: rest, s =>
    match exec i s with
    | .next t => execAll rest t
    | .fault r => .fault r
    | .refused r => .refused r

/-! ### Which bits of a command a field covers (R63 to R72, R75) -/

/-- The payload bits of the opcode word that a field covers (R63, R66). -/
def payloadMask (op : Byte) : Word :=
  if op = 0xE1#8 then 0x0007FF#32
  else if op = 0xE3#8 ∨ op = 0xE4#8 then 0x07FFFF#32
  else if op = 0xE5#8 then 0x3FFFFF#32
  else if op = 0xE6#8 then 0x000003#32
  else if op ∈ [0x20#8, 0x28#8, 0x30#8, 0x38#8, 0x40#8, 0x50#8, 0x60#8] then 0xFFFFFF#32
  else 0#32

/-- The bits of operand word `k` that a field covers: whole vertex and size words, 24 bits of a colour word (R67 to
R72). -/
def operandMask (op : Byte) (k : Nat) : Word :=
  if op ∈ [0x30#8, 0x38#8, 0x50#8] then
    if len op < k then 0#32 else if k % 2 = 0 then 0xFFFFFF#32 else 0xFFFFFFFF#32
  else if op ∈ [0x02#8, 0x20#8, 0x28#8, 0x40#8, 0x60#8] then if len op < k then 0#32 else 0xFFFFFFFF#32
  else 0#32

/-- The bits of word `k` of a command of opcode `op` that a field covers, the opcode's own among them. -/
def fieldMask (op : Byte) (k : Nat) : Word := if k = 0 then 0xFF000000#32 ||| payloadMask op else operandMask op k

/-! ### Output written out from the rules -/

/-- The vertex record of R151 and R153 for raw coordinates `(px, py)`: `x = HSCALE * (px + OFS_X - CLIP_X1)`,
`y = VSCALE * (py + OFS_Y - CLIP_Y1)` in the port's number format (log 6), the constant depth. -/
def emittedVertex (s : State) (px py : Int) (colour : Rgb) (eor : Bool) : Record :=
  .vtx (Config.scale Config.hscale (px + s.ofsX.toInt - (s.clipX1.toNat : Int)))
    (Config.scale Config.vscale (py + s.ofsY.toInt - (s.clipY1.toNat : Int))) Config.depthConst colour eor

/-- The six vertex records of a line whose ordered endpoints are `a` and `b` (R180 to R182). -/
def quadRecords (s : State) (a : Vertex) (ka : Rgb) (b : Vertex) (kb : Rgb) : List Record :=
  let dx : Int := if b.y < a.y then 1 else -1
  [emittedVertex s a.x a.y ka false, emittedVertex s b.x b.y kb false, emittedVertex s (b.x + dx) (b.y + 1) kb false,
    emittedVertex s a.x a.y ka false, emittedVertex s (b.x + dx) (b.y + 1) kb false,
    emittedVertex s (a.x + dx) (a.y + 1) ka true]

/-! ### The shape of the output stream (R151, R152, R156, R157) -/

/-- A vertex record at the constant depth with that end-of-run flag. -/
def IsVertex (eor : Bool) (r : Record) : Prop := ∃ x y colour, r = .vtx x y Config.depthConst colour eor

/-- One primitive: a style record, then a run of 3, 4 or 6 vertices of which the last, and no other, has `eor`. -/
def IsPrimitive (rs : List Record) : Prop :=
  ∃ shading body last, rs = styleRecord shading :: (body ++ [last]) ∧ (∀ r ∈ body, IsVertex false r) ∧
    IsVertex true last ∧ (body.length = 2 ∨ body.length = 3 ∨ body.length = 5)

/-- The `eor` flag of a record: a vertex has one, a style record has none (R151). -/
def eorFlag : Record → Option Bool
  | .style _ _ _ => none
  | .vtx _ _ _ _ eor => some eor

/-- How many vertices the run of a command has (R157); a command that is not drawn has no run. -/
def runLength : Instr → Nat
  | .polyF3 .. | .polyG3 .. => 3
  | .polyF4 .. | .polyG4 .. | .rectF .. => 4
  | .lineF2 .. | .lineG2 .. => 6
  | _ => 0

/-- The `eor` flags of a run of that many vertices: the last is set, and no other (R157). -/
def runFlags : Nat → List Bool
  | 0 => []
  | n + 1 => List.replicate n false ++ [true]

/-! ### Invariants -/

/-- `POS` is at most `N`, and what lies before it is whole commands (R19, R43). -/
def AtBoundary (s : State) : Prop := s.pos ≤ s.buf.length ∧ WholeCommands (s.buf.take s.pos)

/-- `OUT` is a sequence of whole primitives (R105, R150). -/
def OutWellFormed (s : State) : Prop :=
  ∃ prims : List (List Record), (∀ p ∈ prims, IsPrimitive p) ∧ s.out = prims.flatten

/-- Between invocations `STATUS[12:0]` mirrors `TEXSTAT` and the mask flags (R16, R227). -/
def StatusMirrors (s : State) : Prop :=
  s.phase = .idle →
    statusTex s.status = s.texStat ∧ statusMset s.status = s.maskSet ∧ statusMchk s.status = s.maskChk

/-! ### A disciplined host, and safe runs -/

/-- A script that opens and closes batches in turn and makes an invocation only while one is open (R24, R222), from a
moment when a batch is or is not open. -/
def disciplined : Bool → List HostAction → Bool
  | _, [] => true
  | isOpen, .beginBatch :: rest => !isOpen && disciplined true rest
  | isOpen, .endBatch :: rest => isOpen && disciplined false rest
  | isOpen, .invoke _ _ _ :: rest => isOpen && disciplined isOpen rest
  | isOpen, .resume _ :: rest => isOpen && disciplined isOpen rest
  | isOpen, .writeStatusHost _ :: rest => disciplined isOpen rest

/-- The host keeps the discipline from here on, and an invocation under way has its batch open. -/
def Disciplined (s : State) : Prop :=
  disciplined s.batchOpen s.script = true ∧ (s.phase = .running → s.batchOpen = true)

/-- No number of steps ends in a fault or a refusal. -/
def SafeFrom (s : State) : Prop := ∀ n, ∃ t, run n s = .next t

end Sys2Proof.Machine
end

