-- ==== Sys2Proof/Certificates/Slice0/Obligations.lean ====
section
/-! DEFINITION. The statements for the provers, one Prop each, from the numbered rules of spec/. -/

open Sys2Proof Sys2Proof.Machine

/-! ### Encoding -/

/-- Decoding what the encoder writes for a well-formed instruction gives it back, with the words after it (R77, R79).
The field positions and opcode numbers are decided (D3 to D6; logs 12 and 13). -/
def Obligations.DecodeInvertsEncode : Prop :=
  ∀ (i : Instr) (rest : List Word), i.wellFormed = true → decode (encode i ++ rest) = .ok (i, rest)

/-- A decoded instruction is well formed and took exactly one command, its length given by its opcode alone (R60, R76,
R79). -/
def Obligations.DecodeConsumesOneCommand : Prop :=
  ∀ (ws rest : List Word) (i : Instr), decode ws = .ok (i, rest) →
    i.wellFormed = true ∧ ∃ c, ws = c ++ rest ∧ IsCommand c ∧ opcodeOf i = opcodeField (c.headD 0)

/-- There is no illegal encoding (R74): a stream fails to decode only for want of words, whatever they hold. -/
def Obligations.EveryOpcodeDecodes : Prop :=
  decode [] = .error .noWords ∧
  ∀ (w0 : Word) (tail : List Word),
    (1 + len (opcodeField w0) ≤ (w0 :: tail).length → ∃ i rest, decode (w0 :: tail) = .ok (i, rest)) ∧
    ((w0 :: tail).length < 1 + len (opcodeField w0) → decode (w0 :: tail) = .error .incomplete)

/-- Bits no field covers change nothing (R75), and neither do the packet's words above the command (R18): packets that
agree on the covered bits hold the same instruction and execute alike. That such bits are ignored is decided D24 (log
24). That the outcomes agree in `PKT` too rests on the free value the model leaves there after every command (the
model's choice, log 3): R18 gives `PKT` no value between steps. -/
def Obligations.UncoveredBitsChangeNothing : Prop :=
  ∀ (p q : Packet),
    (∀ k (h : k < 16), p[k] &&& fieldMask (opcodeField p[0]) k = q[k] &&& fieldMask (opcodeField p[0]) k) →
    decodePacket p = decodePacket q ∧
      ∀ s : State, exec (decodePacket p) { s with pkt := p } = exec (decodePacket q) { s with pkt := q }

/-- Words written out from the encodings decode to the instructions they stand for (sanity; the spec's examples). -/
def Obligations.ExampleWordsDecode : Prop :=
  decode [0xE5003FFB#32] = .ok (.drawofs (-5) 7, []) ∧
  decode [0xE300500A#32] = .ok (.clipTl 10 20, []) ∧
  decode [0xE403BD3F#32] = .ok (.clipBr 319 239, []) ∧
  decode [0x02000000#32, 0x00000002#32, 0x00030012#32] = .ok (.fill 2 0 18 3, []) ∧
  decode [0x20FFFFFF#32, 0xFFF90005#32, 0x7FFF8000#32, 0xFC0003FF#32] =
    .ok (.polyF3 0xFFFFFF#24 ⟨5, -7⟩ ⟨-32768, 32767⟩ ⟨1023, -1024⟩, []) ∧
  decode [0x500000FF#32, 0x00050014#32, 0x0000FF00#32, 0x000F0000#32] =
    .ok (.lineG2 0x0000FF#24 ⟨20, 5⟩ 0x00FF00#24 ⟨0, 15⟩, []) ∧
  decode [0x60112233#32, 0x00200010#32, 0x00080018#32] = .ok (.rectF 0x112233#24 ⟨16, 32⟩ 24 8, []) ∧
  decode [0xA0000000#32, 0#32, 0x00010002#32, 0xE5003FFB#32] = .ok (.xferCvA0, [0xE5003FFB#32])

/-- A stream stored as bytes is little-endian (R42, D20), and a byte stream that is not whole words is rejected; the
rejection is the model's choice (log 21). -/
def Obligations.ByteStreamsAreLittleEndian : Prop :=
  (∀ ws : List Word,
    wordsOfBytes (ws.flatMap fun w =>
      [w.extractLsb' 0 8, w.extractLsb' 8 8, w.extractLsb' 16 8, w.extractLsb' 24 8]) = .ok ws) ∧
  ∀ bs : List Byte, bs.length % 4 ≠ 0 → decodeBytes bs = .error .raggedBytes

/-- Every command fits the packet, and the opcodes with an operation have the lengths their formats need (R61, R232).
-/
def Obligations.LengthTableFitsThePacket : Prop :=
  (∀ op : Byte, 1 + len op ≤ 16) ∧ len 0x02#8 = 2 ∧ len 0x20#8 = 3 ∧ len 0x28#8 = 4 ∧ len 0x30#8 = 5 ∧
    len 0x38#8 = 7 ∧ len 0x40#8 = 2 ∧ len 0x50#8 = 3 ∧ len 0x60#8 = 2 ∧ len 0xE1#8 = 0 ∧ len 0xE2#8 = 0 ∧
    len 0xE3#8 = 0 ∧ len 0xE4#8 = 0 ∧ len 0xE5#8 = 0 ∧ len 0xE6#8 = 0

/-- The two coordinate widths agree on every word whose halves lie in -1024..1023 (R64). -/
def Obligations.VertexWidthsAgree : Prop :=
  ∀ w : Word, -1024 ≤ (rawVertex .bits16 w).x → (rawVertex .bits16 w).x ≤ 1023 → -1024 ≤ (rawVertex .bits16 w).y →
    (rawVertex .bits16 w).y ≤ 1023 → rawVertex .bits11 w = rawVertex .bits16 w

/-! ### The decode loop -/

/-- When the words at `POS` decode to an instruction, the step is the packet copy and then `exec` of it, which is
`exec` at the state itself, since no operation reads what the packet held (R92 to R97, R18). That the two leave one
`PKT` is the model's free value after a command (log 3). -/
def Obligations.StepRunsTheDecodedInstruction : Prop :=
  ∀ (s : State) (i : Instr) (rest : List Word), s.phase = .running → decode (s.buf.drop s.pos) = .ok (i, rest) →
    step s = exec i (packetCopy (len (opcodeOf i)) s) ∧ step s = exec i s

/-- The packet copy (R96): `PKT[k]` is `BUF[POS + k]` up to the command's length, the words above are not written, and
nothing else changes. No step that executes a command depends on what `PKT` held (R18, decided D26): its whole next state
is the same, `PKT` too, since the model leaves a free value there after every command (the model's choice, log 3). -/
def Obligations.PacketCopyHoldsTheCommand : Prop :=
  (∀ (s : State) (n : Nat), s.pos + 1 + n ≤ s.buf.length → n ≤ 15 →
    (∀ k (h : k < 16),
      (k ≤ n → s.buf[s.pos + k]? = some ((packetCopy n s).pkt[k])) ∧
      (n < k → (packetCopy n s).pkt[k] = s.pkt[k])) ∧
    packetCopy n s = { s with pkt := (packetCopy n s).pkt }) ∧
  ∀ (s : State) (n : Nat) (old : Packet), s.phase = .running → fetch s = .command n →
    step { s with pkt := old } = step s

/-- At `POS = N` no command is fetched and the invocation exits, `LASTOP` kept; this and the partial command are the
only ways an invocation ends (R92). That `STATUS` is then written back with the flags is R100, decided D8 (log 16).
That `PKT` is left as it was is the model's choice (log 3). -/
def Obligations.EndOfBufferExits : Prop :=
  (∀ s : State, s.phase = .running → s.pos = s.buf.length →
    ∃ t, step s = .next t ∧ t.phase = .idle ∧ t.lastOp = s.lastOp ∧
      t.result = (s.buf.length, s.cycCarry, s.cycSum, lastOpCode s.lastOp) ∧ t.persistent = s.persistent ∧
      t.status = (writeBackStatus s).status ∧ t.out = s.out ∧ t.pkt = s.pkt ∧ t.buf = s.buf ∧
      t.batchOpen = s.batchOpen ∧ t.script = s.script) ∧
  ∀ s t : State, s.phase = .running → step s = .next t → t.phase = .idle →
    s.pos = s.buf.length ∨
      ∃ w0, s.buf[s.pos]? = some w0 ∧ s.buf.length - s.pos < 1 + len (opcodeField w0)

/-- A partial command stops the invocation before anything of it is executed, and with a word at `POS` nothing else
ends it (R95, R201, R207); a command without operand words is never partial. That this exit writes `STATUS` back too
is R100 by the resolution C4 (log 16). That `PKT` is left as it was is the model's choice (log 3). -/
def Obligations.IncompleteStopsBeforeTheCommand : Prop :=
  ∀ (s : State) (w0 : Word), s.phase = .running → s.buf[s.pos]? = some w0 →
    (s.buf.length - s.pos < 1 + len (opcodeField w0) →
      ∃ t, step s = .next t ∧ t.phase = .idle ∧ t.lastOp = .incomplete ∧ t.pos = s.pos ∧
        t.result = (s.pos, s.cycCarry, s.cycSum, -1) ∧ t.persistent = s.persistent ∧
        t.status = (writeBackStatus s).status ∧ t.out = s.out ∧ t.pkt = s.pkt ∧ t.buf = s.buf ∧
        t.batchOpen = s.batchOpen ∧ t.script = s.script) ∧
    (∀ t, step s = .next t → t.phase = .idle → s.buf.length - s.pos < 1 + len (opcodeField w0)) ∧
    (len (opcodeField w0) = 0 → fetch s = .command 0)

/-- Both exits write `STATUS` back and return the results (R100): bits 10:0, 11 and 12 mirror the registers, bits
31:13 are kept. That the flags are written, and where, is decided D8 (log 16). -/
def Obligations.ExitWritesStatusBack : Prop :=
  ∀ s : State, s.phase = .running →
    (s.pos = s.buf.length ∨
      ∃ w0, s.buf[s.pos]? = some w0 ∧ s.buf.length - s.pos < 1 + len (opcodeField w0)) →
    ∃ t, step s = .next t ∧ t.phase = .idle ∧ statusTex t.status = s.texStat ∧ statusMset t.status = s.maskSet ∧
      statusMchk t.status = s.maskChk ∧ statusHost t.status = statusHost s.status ∧
      t.result = (s.pos, s.cycCarry, s.cycSum, lastOpCode t.lastOp)

/-- An invocation starts at `POS = 0` of the host's buffer with the host's counters and the registers left as they
were (R91); `LASTOP` is then a free value, of which nothing is said. -/
def Obligations.InvocationStartsAtZero : Prop :=
  ∀ (s : State) (words : List Word) (carry sum : Int) (rest : List HostAction), s.phase = .idle →
    s.script = .invoke words carry sum :: rest →
    ∃ t, step s = .next t ∧ t.phase = .running ∧ t.pos = 0 ∧ t.buf = words ∧ t.cycCarry = carry ∧ t.cycSum = sum ∧
      t.persistent = s.persistent ∧ t.status = s.status ∧ t.out = s.out ∧ t.batchOpen = s.batchOpen ∧
      t.script = rest

/-- An invocation on an empty buffer exits at once with nothing consumed, the counters unchanged and `STATUS` written
back; its `lastOpcode` is some value of -1..255 (R103). -/
def Obligations.EmptyBufferExitsAtOnce : Prop :=
  ∀ (s : State) (carry sum : Int) (rest : List HostAction), s.phase = .idle → s.script = .invoke [] carry sum :: rest →
    ∃ t code, run 2 s = .next t ∧ t.phase = .idle ∧ t.result = (0, carry, sum, code) ∧ -1 ≤ code ∧ code ≤ 255 ∧
      statusTex t.status = s.texStat ∧ statusMset t.status = s.maskSet ∧ statusMchk t.status = s.maskChk ∧
      statusHost t.status = statusHost s.status ∧ t.persistent = s.persistent ∧ t.out = s.out

/-- The two accounting schemes over any sequence of costs (R98); which one the block uses is decided D10 (log 9). -/
def Obligations.AccountingSchemesAddUp : Prop :=
  (∀ (ks : List Nat) (s : State),
    (ks.foldl (fun u k => account .direct k u) s).cycSum = s.cycSum + (ks.sum : Int) ∧
    (ks.foldl (fun u k => account .direct k u) s).cycCarry = s.cycCarry ∧
    (ks.foldl (fun u k => account .deferred k u) s).cycSum +
      (ks.foldl (fun u k => account .deferred k u) s).cycCarry = s.cycSum + s.cycCarry + (ks.sum : Int)) ∧
  ∀ (ks : List Nat) (k : Nat) (s : State),
    ((ks ++ [k]).foldl (fun u k => account .deferred k u) s).cycSum = s.cycSum + s.cycCarry + (ks.sum : Int) ∧
    ((ks ++ [k]).foldl (fun u k => account .deferred k u) s).cycCarry = k

/-- Every executed command is accounted once, with the fill's area or 0, and `LASTOP` and `POS` advance by its own
opcode alone (R97, R98, R99, R113). The accounting scheme is decided D10 (log 9), that every command is costed D30
(log 8), and the fill's area, the rounded width times the height, is the spec's own reading (D6; log 27). -/
def Obligations.ExecutedCommandIsConsumed : Prop :=
  ∀ (i : Instr) (s t : State), exec i s = .next t →
    (∀ x y w h, i = .fill x y w h → Consumed 0x02#8 ((w + 14 - (w + 14) % 16) * h) s t) ∧
    (opcodeOf i ≠ 0x02#8 → Consumed (opcodeOf i) 0 s t)

/-- An invocation ends: a step that does not end it moves `POS` up within the buffer, and within `N - POS + 1` steps
it is over, a batch being open (R104). -/
def Obligations.InvocationEnds : Prop :=
  (∀ s t : State, s.phase = .running → step s = .next t → t.phase = .running → s.pos < t.pos ∧ t.pos ≤ t.buf.length) ∧
  ∀ s : State, s.phase = .running → s.pos ≤ s.buf.length → s.batchOpen = true →
    ∃ k t, k ≤ s.buf.length - s.pos + 1 ∧ run k s = .next t ∧ t.phase = .idle

/-- A buffer of whole commands is executed command by command, in order, and consumed exactly; `lastOpcode` is the
last command's opcode (R101). That the two runs agree in `PKT` too, although the second copies no packet, rests on the
free value the model leaves there after every command (the model's choice, log 3). -/
def Obligations.CompleteBufferIsConsumed : Prop :=
  ∀ (s : State) (cs : List (List Word)), s.phase = .running → s.pos ≤ s.buf.length → (∀ c ∈ cs, IsCommand c) →
    s.buf.drop s.pos = cs.flatten →
    run cs.length s = execAll (cs.map instrOf) s ∧
    (s.batchOpen = true →
      ∃ t, run (cs.length + 1) s = .next t ∧ t.phase = .idle ∧ t.pos = s.buf.length ∧
        ∀ c, cs.getLast? = some c → t.lastOp = .opcode (opcodeField (c.headD 0)))

/-- A buffer that ends in a partial command stops there; re-supplying the partial command with its missing words, and
any more, has the effect on the registers, on `OUT` and on the counters that one invocation on the whole stream has
(R102, R208). That the scale factors are the same in both invocations is the model's choice (log 6). -/
def Obligations.PartialCommandResumes : Prop :=
  ∀ (s : State) (cs : List (List Word)) (part missing more : List Word), s.phase = .running →
    s.pos ≤ s.buf.length → s.batchOpen = true → (∀ c ∈ cs, IsCommand c) → part ≠ [] → missing ≠ [] →
    IsCommand (part ++ missing) → s.buf.drop s.pos = cs.flatten ++ part →
    ∃ t, run (cs.length + 1) s = .next t ∧ t.phase = .idle ∧ t.pos = s.buf.length - part.length ∧
      t.lastOp = .incomplete ∧
      ∀ k u, run k (resume (missing ++ more) t) = .next u →
        ∃ v, run (cs.length + k) { s with buf := s.buf ++ missing ++ more } = .next v ∧
          v.persistent = u.persistent ∧ v.out = u.out ∧ v.cycSum = u.cycSum ∧ v.cycCarry = u.cycCarry ∧
          v.phase = u.phase ∧ (u.phase = .idle → v.status = u.status)

/-- Re-invoked without new words, the block stops again at once with nothing consumed and `lastOpcode = -1` (R208). -/
def Obligations.ResumeWithoutWordsStopsAgain : Prop :=
  ∀ (s : State) (w0 : Word) (rest : List HostAction), s.phase = .idle → s.script = .resume [] :: rest →
    s.buf[s.pos]? = some w0 → s.buf.length - s.pos < 1 + len (opcodeField w0) →
    ∃ t, run 2 s = .next t ∧ t.phase = .idle ∧ t.result = (0, s.cycCarry, s.cycSum, -1) ∧
      t.persistent = s.persistent ∧ t.out = s.out ∧ t.buf.drop t.pos = s.buf.drop s.pos

/-! ### Invariants that every step keeps -/

/-- `POS` never exceeds `N` and always stands at a command boundary (R19, R43). -/
def Obligations.StepKeepsCommandBoundary : Prop :=
  ∀ s t : State, AtBoundary s → step s = .next t → AtBoundary t

/-- `OUT` stays a sequence of whole primitives: a style, then a run of 3, 4 or 6 vertices at the constant depth, the
last one alone with `eor` (R105, R151, R152, R156, R157). One style record a run is decided D15 (log 26). -/
def Obligations.StepKeepsOutputWellFormed : Prop :=
  ∀ s t : State, OutWellFormed s → step s = .next t → OutWellFormed t

/-- Between invocations `STATUS[12:0]` mirrors the registers (R16, R227). The layout is decided D8 (log 16). -/
def Obligations.StepKeepsStatusMirror : Prop :=
  ∀ s t : State, StatusMirrors s → step s = .next t → StatusMirrors t

/-- The invariants at reset, for every value of the parameter `RESET_STATE`: the first two hold, and the third holds
when the parameter's `STATUS[12:0]` mirrors its registers, as the decided zeros do (D9; log 1). That `POS` and `BUF`
have a value at reset, 0 and empty, is the model's choice (log 4). -/
def Obligations.InvariantsHoldAtReset : Prop :=
  (∀ r : ResetState,
    AtBoundary (State.resetWith r) ∧ OutWellFormed (State.resetWith r) ∧
      (StatusMirrors (State.resetWith r) ↔
        r.statusLow.extractLsb' 0 11 = r.registers.texStat ∧ r.statusLow.getLsbD 11 = r.registers.maskSet ∧
          r.statusLow.getLsbD 12 = r.registers.maskChk)) ∧
  AtBoundary State.reset ∧ OutWellFormed State.reset ∧ StatusMirrors State.reset

/-- After reset the nine registers and `STATUS[12:0]` have the values of the parameter `RESET_STATE`, whatever it is,
no batch is open (decided D16), `OUT` is empty, the block is idle, and nothing executes until the host acts; the
configured parameter is zero (R26, R220). The zeros are decided D9 (log 1); the empty script is the model's choice
(log 18). -/
def Obligations.ResetStateIsIdleAndZero : Prop :=
  (∀ r : ResetState,
    (State.resetWith r).persistent = r.registers ∧ (State.resetWith r).status.extractLsb' 0 13 = r.statusLow ∧
      (State.resetWith r).batchOpen = false ∧ (State.resetWith r).out = [] ∧ (State.resetWith r).phase = .idle ∧
      step (State.resetWith r) = .next (State.resetWith r)) ∧
  State.reset = State.resetWith ⟨⟨0, 0, 0, 0, 0, 0, 0, false, false⟩, 0⟩ ∧
    State.reset.persistent = ⟨0, 0, 0, 0, 0, 0, 0, false, false⟩ ∧ statusTex State.reset.status = 0 ∧
    statusMset State.reset.status = false ∧ statusMchk State.reset.status = false ∧
    State.reset.batchOpen = false ∧ State.reset.out = [] ∧ State.reset.phase = .idle ∧
    step State.reset = .next State.reset

/-- A host that keeps the batch discipline never meets a fault (R204). What a broken discipline does is the model's
choice (log 19). -/
def Obligations.DisciplinedHostNeverFaults : Prop :=
  ∀ s : State, s.pos ≤ s.buf.length → Disciplined s → SafeFrom s

/-! ### Rules of the whole machine -/

/-- `OUT` is append-only, and a step appends nothing or exactly one primitive, within an invocation and with a batch
open (R23, R48, R150). -/
def Obligations.OutputIsAppendOnly : Prop :=
  ∀ s t : State, step s = .next t →
    ∃ rs, t.out = s.out ++ rs ∧ (rs ≠ [] → s.phase = .running ∧ s.batchOpen = true ∧ IsPrimitive rs)

/-- During an invocation the host does nothing: its script, the batch, the buffer and its own status bits stay (R9,
R50, R104). -/
def Obligations.HostWaitsDuringInvocation : Prop :=
  ∀ s t : State, s.phase = .running → step s = .next t →
    t.script = s.script ∧ t.batchOpen = s.batchOpen ∧ t.buf = s.buf ∧ statusHost t.status = statusHost s.status

/-- Between invocations the nine registers, `STATUS[12:0]` and `OUT` keep their values, whatever the host does (R27).
-/
def Obligations.RegistersPersistBetweenInvocations : Prop :=
  ∀ s t : State, s.phase = .idle → step s = .next t →
    t.persistent = s.persistent ∧ t.out = s.out ∧ statusTex t.status = statusTex s.status ∧
      statusMset t.status = statusMset s.status ∧ statusMchk t.status = statusMchk s.status

/-- A register is written only by its designated opcode, and `STATUS` by no command: within an invocation it changes
only in the step that ends it (R17). -/
def Obligations.OnlyDesignatedOpcodesWrite : Prop :=
  (∀ s t : State, s.phase = .running → step s = .next t → t.phase = .running → t.status = s.status) ∧
  ∀ (i : Instr) (s t : State), exec i s = .next t →
    t.status = s.status ∧
    (isWriter i = false → t.persistent = s.persistent) ∧
    (opcodeOf i = 0xE1#8 → t.persistent = { s.persistent with texStat := t.texStat }) ∧
    (opcodeOf i = 0xE3#8 → t.persistent = { s.persistent with clipX1 := t.clipX1, clipY1 := t.clipY1 }) ∧
    (opcodeOf i = 0xE4#8 → t.persistent = { s.persistent with clipX2 := t.clipX2, clipY2 := t.clipY2 }) ∧
    (opcodeOf i = 0xE5#8 → t.persistent = { s.persistent with ofsX := t.ofsX, ofsY := t.ofsY }) ∧
    (opcodeOf i = 0xE6#8 → t.persistent = { s.persistent with maskSet := t.maskSet, maskChk := t.maskChk })

/-- No step is refused, and within an invocation the only faults are a drawn command outside a batch and a `POS`
beyond the buffer, which the boundary invariant rules out (R203, R204). -/
def Obligations.NoOtherConditionExists : Prop :=
  (∀ s r, step s ≠ .refused r) ∧
  ∀ (s : State) (f : Fault), s.phase = .running → step s = .fault f →
    (f = .emitOutsideBatch ∧ s.batchOpen = false) ∨ (f = .posBeyondBuffer ∧ s.buf.length < s.pos)

/-- The registers no rule reads never reach the output (R13, R15, R229): two machines that differ only in `TEXSTAT`,
the bottom-right corner, the mask flags and `STATUS` emit the same records and return the same results, however long
they run. -/
def Obligations.UnreadRegistersNeverReachTheOutput : Prop :=
  ∀ (n : Nat) (s t : State) (tex : BitVec 11) (x2 : BitVec 10) (y2 : BitVec 9) (mset mchk : Bool) (status : Word),
    run n s = .next t →
    ∃ t', run n { s with texStat := tex, clipX2 := x2, clipY2 := y2, maskSet := mset, maskChk := mchk,
                         status := status } = .next t' ∧
      t'.out = t.out ∧ t'.result = t.result ∧ t'.phase = t.phase

/-! ### Acknowledged commands and FILL -/

/-- The 242 acknowledged opcodes and TWIN are consumed and do nothing else (R110, R111, R112, R114, R131, R174, R183,
R191, R202). -/
def Obligations.AcknowledgedCommandsOnlyAdvance : Prop :=
  ∀ (i : Instr) (s : State), isAcknowledged i = true →
    ∃ t, exec i s = .next t ∧ Consumed (opcodeOf i) 0 s t ∧ t.persistent = s.persistent ∧ t.out = s.out

/-- FILL accounts the cost of its area, the width rounded by `(w + 14) & ~15` times the height, and does nothing else
(R113). The area and that nothing is drawn are the spec's readings (D6, D31; log 27). -/
def Obligations.FillAccountsTheRoundedArea : Prop :=
  ∀ (x y w h : Nat) (s : State),
    ∃ t, exec (.fill x y w h) s = .next t ∧ Consumed 0x02#8 ((w + 14 - (w + 14) % 16) * h) s t ∧
      t.persistent = s.persistent ∧ t.out = s.out

/-! ### State-setting commands -/

/-- TPAGE writes the low 11 bits of its word to `TEXSTAT` and nothing else (R130). -/
def Obligations.TpageWritesTexstat : Prop :=
  (∀ (w : Word) (tail : List Word), opcodeField w = 0xE1#8 →
    decode (w :: tail) = .ok (.tpage (w.toNat % 2048), tail)) ∧
  ∀ (tp : Nat) (s : State), tp ≤ 2047 →
    ∃ t, exec (.tpage tp) s = .next t ∧ Consumed 0xE1#8 0 s t ∧ t.texStat.toNat = tp ∧
      t.persistent = { s.persistent with texStat := t.texStat } ∧ t.out = s.out

/-- CLIP_TL writes bits 9:0 and 18:10 to the top-left corner and nothing else (R132). -/
def Obligations.ClipTlWritesTheTopLeftCorner : Prop :=
  (∀ (w : Word) (tail : List Word), opcodeField w = 0xE3#8 →
    decode (w :: tail) = .ok (.clipTl (w.toNat % 1024) (w.toNat / 1024 % 512), tail)) ∧
  ∀ (x y : Nat) (s : State), x ≤ 1023 → y ≤ 511 →
    ∃ t, exec (.clipTl x y) s = .next t ∧ Consumed 0xE3#8 0 s t ∧ t.clipX1.toNat = x ∧ t.clipY1.toNat = y ∧
      t.persistent = { s.persistent with clipX1 := t.clipX1, clipY1 := t.clipY1 } ∧ t.out = s.out

/-- CLIP_BR writes bits 9:0 and 18:10 to the bottom-right corner and nothing else (R133). -/
def Obligations.ClipBrWritesTheBottomRightCorner : Prop :=
  (∀ (w : Word) (tail : List Word), opcodeField w = 0xE4#8 →
    decode (w :: tail) = .ok (.clipBr (w.toNat % 1024) (w.toNat / 1024 % 512), tail)) ∧
  ∀ (x y : Nat) (s : State), x ≤ 1023 → y ≤ 511 →
    ∃ t, exec (.clipBr x y) s = .next t ∧ Consumed 0xE4#8 0 s t ∧ t.clipX2.toNat = x ∧ t.clipY2.toNat = y ∧
      t.persistent = { s.persistent with clipX2 := t.clipX2, clipY2 := t.clipY2 } ∧ t.out = s.out

/-- DRAWOFS writes its two sign-extended 11-bit fields to the drawing offset and nothing else (R134). -/
def Obligations.DrawofsWritesTheOffset : Prop :=
  (∀ (w : Word) (tail : List Word), opcodeField w = 0xE5#8 →
    decode (w :: tail) = .ok (.drawofs (w.extractLsb' 0 11).toInt (w.extractLsb' 11 11).toInt, tail)) ∧
  ∀ (dx dy : Int) (s : State), -1024 ≤ dx → dx ≤ 1023 → -1024 ≤ dy → dy ≤ 1023 →
    ∃ t, exec (.drawofs dx dy) s = .next t ∧ Consumed 0xE5#8 0 s t ∧ t.ofsX.toInt = dx ∧ t.ofsY.toInt = dy ∧
      t.persistent = { s.persistent with ofsX := t.ofsX, ofsY := t.ofsY } ∧ t.out = s.out

/-- MASKBITS writes bits 0 and 1 to the two mask flags and nothing else (R135). -/
def Obligations.MaskbitsWritesTheFlags : Prop :=
  (∀ (w : Word) (tail : List Word), opcodeField w = 0xE6#8 →
    decode (w :: tail) = .ok (.maskbits (w.getLsbD 0) (w.getLsbD 1), tail)) ∧
  ∀ (set chk : Bool) (s : State),
    ∃ t, exec (.maskbits set chk) s = .next t ∧ Consumed 0xE6#8 0 s t ∧ t.maskSet = set ∧ t.maskChk = chk ∧
      t.persistent = { s.persistent with maskSet := set, maskChk := chk } ∧ t.out = s.out

/-! ### Drawn commands -/

/-- POLY_F3 and POLY_F4 emit a flat style and their vertices in command order, all in the one colour (R170, R171). -/
def Obligations.FlatPolygonsEmitTheirVertices : Prop :=
  (∀ (c : Colour) (v0 v1 v2 : Vertex) (s : State), s.batchOpen = true →
    ∃ t, exec (.polyF3 c v0 v1 v2) s = .next t ∧ Consumed 0x20#8 0 s t ∧ t.persistent = s.persistent ∧
      t.out = s.out ++
        [.style .flat .gequal Config.cullMode, emittedVertex s v0.x v0.y (rgb c) false,
          emittedVertex s v1.x v1.y (rgb c) false, emittedVertex s v2.x v2.y (rgb c) true]) ∧
  ∀ (c : Colour) (v0 v1 v2 v3 : Vertex) (s : State), s.batchOpen = true →
    ∃ t, exec (.polyF4 c v0 v1 v2 v3) s = .next t ∧ Consumed 0x28#8 0 s t ∧ t.persistent = s.persistent ∧
      t.out = s.out ++
        [.style .flat .gequal Config.cullMode, emittedVertex s v0.x v0.y (rgb c) false,
          emittedVertex s v1.x v1.y (rgb c) false, emittedVertex s v2.x v2.y (rgb c) false,
          emittedVertex s v3.x v3.y (rgb c) true]

/-- POLY_G3 and POLY_G4 emit a Gouraud style and their vertices in command order, each in its own colour (R172, R173).
-/
def Obligations.ShadedPolygonsEmitTheirVertices : Prop :=
  (∀ (c0 c1 c2 : Colour) (v0 v1 v2 : Vertex) (s : State), s.batchOpen = true →
    ∃ t, exec (.polyG3 c0 v0 c1 v1 c2 v2) s = .next t ∧ Consumed 0x30#8 0 s t ∧ t.persistent = s.persistent ∧
      t.out = s.out ++
        [.style .gouraud .gequal Config.cullMode, emittedVertex s v0.x v0.y (rgb c0) false,
          emittedVertex s v1.x v1.y (rgb c1) false, emittedVertex s v2.x v2.y (rgb c2) true]) ∧
  ∀ (c0 c1 c2 c3 : Colour) (v0 v1 v2 v3 : Vertex) (s : State), s.batchOpen = true →
    ∃ t, exec (.polyG4 c0 v0 c1 v1 c2 v2 c3 v3) s = .next t ∧ Consumed 0x38#8 0 s t ∧
      t.persistent = s.persistent ∧
      t.out = s.out ++
        [.style .gouraud .gequal Config.cullMode, emittedVertex s v0.x v0.y (rgb c0) false,
          emittedVertex s v1.x v1.y (rgb c1) false, emittedVertex s v2.x v2.y (rgb c2) false,
          emittedVertex s v3.x v3.y (rgb c3) true]

/-- LINE_F2 and LINE_G2 emit the six vertices of the default expansion, the left endpoint first (R180, R181, R182).
The positions are those of the spec's own default (D17; log 15). -/
def Obligations.LinesEmitTheirQuad : Prop :=
  (∀ (c : Colour) (v0 v1 : Vertex) (s : State), s.batchOpen = true →
    ∃ t, exec (.lineF2 c v0 v1) s = .next t ∧ Consumed 0x40#8 0 s t ∧ t.persistent = s.persistent ∧
      t.out = s.out ++ .style .flat .gequal Config.cullMode ::
        (if v1.x < v0.x then quadRecords s v1 (rgb c) v0 (rgb c) else quadRecords s v0 (rgb c) v1 (rgb c))) ∧
  ∀ (c0 c1 : Colour) (v0 v1 : Vertex) (s : State), s.batchOpen = true →
    ∃ t, exec (.lineG2 c0 v0 c1 v1) s = .next t ∧ Consumed 0x50#8 0 s t ∧ t.persistent = s.persistent ∧
      t.out = s.out ++ .style .gouraud .gequal Config.cullMode ::
        (if v1.x < v0.x then quadRecords s v1 (rgb c1) v0 (rgb c0) else quadRecords s v0 (rgb c0) v1 (rgb c1))

/-- RECT_F emits the four corners of origin and size, top-left, top-right, bottom-left, bottom-right (R190). -/
def Obligations.RectangleEmitsItsCorners : Prop :=
  ∀ (c : Colour) (origin : Vertex) (w h : Nat) (s : State), s.batchOpen = true →
    ∃ t, exec (.rectF c origin w h) s = .next t ∧ Consumed 0x60#8 0 s t ∧ t.persistent = s.persistent ∧
      t.out = s.out ++
        [.style .flat .gequal Config.cullMode, emittedVertex s origin.x origin.y (rgb c) false,
          emittedVertex s (origin.x + w) origin.y (rgb c) false, emittedVertex s origin.x (origin.y + h) (rgb c) false,
          emittedVertex s (origin.x + w) (origin.y + h) (rgb c) true]

/-- A drawn command outside a batch faults before it emits; with a batch it completes; every other command completes
whether a batch is open or not (R158). The fault is decided D16 (log 17). -/
def Obligations.DrawnOutsideBatchFaults : Prop :=
  ∀ (i : Instr) (s : State),
    (isDrawn i = true → s.batchOpen = false → exec i s = .fault .emitOutsideBatch) ∧
    (isDrawn i = true → s.batchOpen = true → ∃ t, exec i s = .next t) ∧
    (isDrawn i = false → ∀ isOpen, ∃ t, exec i { s with batchOpen := isOpen } = .next t)

/-- Drawn commands write no state register, hand area 0 to the accounting, and read only `CLIP_X1`, `CLIP_Y1`,
`OFS_X`, `OFS_Y` and `BATCH_OPEN`: in any two states that agree on these they append the same records (R160). That the
command is consumed is R98 and R99; that every command is costed is decided D30 (log 8), and the scheme D10 (log 9). -/
def Obligations.DrawnCommandsReadOnlyTheTransform : Prop :=
  ∀ (i : Instr) (s s' t : State), isDrawn i = true → s'.clipX1 = s.clipX1 → s'.clipY1 = s.clipY1 →
    s'.ofsX = s.ofsX → s'.ofsY = s.ofsY → s'.batchOpen = s.batchOpen → exec i s = .next t →
    t.persistent = s.persistent ∧ Consumed (opcodeOf i) 0 s t ∧
      ∃ t' rs, exec i s' = .next t' ∧ t.out = s.out ++ rs ∧ t'.out = s'.out ++ rs

/-- The default line expansion has the six properties the source requires (R184): six points in two triangles that
share an edge, the left or lower-indexed endpoint first, every point an endpoint or an endpoint plus the one-pixel
offset of the orientation, with that endpoint's colour, and a horizontal segment within one pixel of its height. -/
def Obligations.DefaultLineQuadMeetsItsProperties : Prop :=
  ∃ d : Bool → Int × Int, (∀ up, |(d up).1| ≤ 1 ∧ |(d up).2| ≤ 1) ∧
    ∀ (p0 p1 : Vertex) (k0 k1 : Rgb), ∃ (a b : Vertex × Rgb) (q1 q2 q3 q4 q5 : Vertex × Rgb),
      ((a = (p0, k0) ∧ b = (p1, k1)) ∨ (a = (p1, k1) ∧ b = (p0, k0))) ∧
      lineQuad p0 k0 p1 k1 = [a, q1, q2, q3, q4, q5] ∧
      a.1.x ≤ b.1.x ∧ (p0.x = p1.x → a = (p0, k0)) ∧
      a = q3 ∧ q2 = q4 ∧
      (∀ q ∈ [a, q1, q2, q3, q4, q5], q = a ∨ q = b ∨
        q = (⟨a.1.x + (d (decide (b.1.y < a.1.y))).1, a.1.y + (d (decide (b.1.y < a.1.y))).2⟩, a.2) ∨
        q = (⟨b.1.x + (d (decide (b.1.y < a.1.y))).1, b.1.y + (d (decide (b.1.y < a.1.y))).2⟩, b.2)) ∧
      (p0.y = p1.y → ∀ q ∈ [a, q1, q2, q3, q4, q5], p0.y - 1 ≤ q.1.y ∧ q.1.y ≤ p0.y + 1)

/-- A line whose endpoints differ in x is emitted alike in either order, its colours going with the endpoints (R181,
R182; for the default expansion). The outcomes agree in `PKT` too, by the free value the model leaves there (log 3).
-/
def Obligations.LineIgnoresEndpointOrder : Prop :=
  ∀ (c0 c1 : Colour) (v0 v1 : Vertex) (s : State), v0.x ≠ v1.x →
    exec (.lineF2 c0 v0 v1) s = exec (.lineF2 c0 v1 v0) s ∧
    exec (.lineG2 c0 v0 c1 v1) s = exec (.lineG2 c1 v1 c0 v0) s

/-- The colour reorder (R155): red on top, then green, then blue, the top byte of the word discarded. The packing is
the spec's notation D21 (log 26). -/
def Obligations.ColourIsReordered : Prop :=
  ∀ w : Word, (rgb (colourField w)).toNat =
    w.toNat % 256 * 65536 + w.toNat / 256 % 256 * 256 + w.toNat / 65536 % 256

/-- Every vertex a step emits has its coordinates from the transform, without clamping, and the integers before the
scale stay within the bound of R153; its depth is the constant (R156). The scale factors and the product in the port's
number format are opaque (log 6). -/
def Obligations.EmittedCoordinatesAreBounded : Prop :=
  ∀ (s t : State) (rs : List Record), s.phase = .running → step s = .next t → t.out = s.out ++ rs →
    ∀ x y z colour eor, Record.vtx x y z colour eor ∈ rs →
      z = Config.depthConst ∧
      ∃ tx ty : Int, x = Config.scale Config.hscale tx ∧ y = Config.scale Config.vscale ty ∧
        |tx| ≤ 32768 + 65535 + 1 + 1024 + 1023 ∧ |ty| ≤ 32768 + 65535 + 1 + 1024 + 1023

/-! ### The host's other actions -/

/-- Opening and closing batches changes `BATCH_OPEN` alone (R24, R210). That an opened batch opened again, or a closed
one closed, is a fault is the model's choice (log 19). -/
def Obligations.BatchActionsOpenAndClose : Prop :=
  ∀ (s : State) (rest : List HostAction), s.phase = .idle →
    (s.script = .beginBatch :: rest →
      step s = if s.batchOpen then .fault .overlappingBatch else .next { s with batchOpen := true, script := rest }) ∧
    (s.script = .endBatch :: rest →
      step s = if s.batchOpen then .next { s with batchOpen := false, script := rest } else .fault .unmatchedEndBatch)

/-- The host's write to `STATUS` reaches bits 31:13 alone (R16, R210). -/
def Obligations.HostWritesOnlyItsStatusBits : Prop :=
  ∀ (s : State) (bits : BitVec 19) (rest : List HostAction), s.phase = .idle →
    s.script = .writeStatusHost bits :: rest →
    ∃ t, step s = .next t ∧ statusHost t.status = bits ∧ statusTex t.status = statusTex s.status ∧
      statusMset t.status = statusMset s.status ∧ statusMchk t.status = statusMchk s.status ∧
      t = { s with status := t.status, script := rest }

/-! ### Two rules of the output stream, whole -/

/-- In every run the last vertex, and no other, has `eor`, and the runs have the lengths of R157: 3 for POLY_F3 and
POLY_G3, 4 for POLY_F4, POLY_G4 and RECT_F, 6 for LINE_F2 and LINE_G2. -/
def Obligations.EorMarksTheLastVertexAlone : Prop :=
  ∀ (i : Instr) (s t : State), isDrawn i = true → exec i s = .next t →
    ∃ rs, t.out = s.out ++ rs ∧ rs.filterMap eorFlag = runFlags (runLength i)

/-- `OUT` is append-only and the block never reads it (R23): from a state that differs in `OUT` alone every step has the
same outcome, with the same records appended to the other stream. -/
def Obligations.OutputIsNeverRead : Prop :=
  ∀ (s : State) (other : List Record),
    (∀ t, step s = .next t → ∃ rs, t.out = s.out ++ rs ∧
      step { s with out := other } = .next { t with out := other ++ rs }) ∧
    ∀ f, step s = .fault f → step { s with out := other } = .fault f

/-- A command that is not drawn emits nothing, neither a vertex nor a style record (R110 to R114, R130 to R135, R174,
R183, R191). That FILL draws nothing is decided D31 (log 27), and which polygon opcodes are drawn is decided D7 (log 12). -/
def Obligations.OnlyDrawnCommandsEmit : Prop :=
  ∀ (i : Instr) (s t : State), isDrawn i = false → exec i s = .next t → t.out = s.out
end

