-- ==== Sys2Proof/Laws/PerInstr.lean ====
section
/-! SUPPORT. Framing, instruction by instruction (R60, R61): what the encoder writes has the length and the opcode the
length table and the opcode map give. -/

namespace Sys2Proof.Laws.Framing

/-- The encoding of `i` is one command: `1 + LEN` words, the opcode of `i` on top of the first. -/
def Statement (i : Instr) : Prop :=
  (encode i).length = 1 + len (opcodeOf i) ∧ opcodeField ((encode i).headD 0) = opcodeOf i

/-- An opcode word shows its opcode (R60). -/
theorem opcodeField_opWord (op : Byte) (payload : BitVec 24) : opcodeField (opWord op payload) = op := by
  apply BitVec.eq_of_getLsbD_eq
  intro k hk
  simp only [opcodeField, opWord, BitVec.getLsbD_extractLsb', BitVec.getLsbD_append]
  simp [hk]

/-- The two halves of the statement follow from the number of operand words. -/
theorem of_encoding {i : Instr} {n : Nat} (hlen : (operandsOf i).2.length = n) (hn : n = len (opcodeOf i)) :
    Statement i :=
  ⟨by rw [encode, List.length_cons, hlen, hn]; omega, opcodeField_opWord _ _⟩

theorem nopUnk00 : Statement .nopUnk00 := of_encoding rfl rfl
theorem nopUnk01 : Statement .nopUnk01 := of_encoding rfl rfl
theorem fill (x y w h : Nat) : Statement (.fill x y w h) := of_encoding rfl rfl
theorem nopUnk03 : Statement .nopUnk03 := of_encoding rfl rfl
theorem nopUnk04 : Statement .nopUnk04 := of_encoding rfl rfl
theorem nopUnk05 : Statement .nopUnk05 := of_encoding rfl rfl
theorem nopUnk06 : Statement .nopUnk06 := of_encoding rfl rfl
theorem nopUnk07 : Statement .nopUnk07 := of_encoding rfl rfl
theorem nopUnk08 : Statement .nopUnk08 := of_encoding rfl rfl
theorem nopUnk09 : Statement .nopUnk09 := of_encoding rfl rfl
theorem nopUnk0A : Statement .nopUnk0A := of_encoding rfl rfl
theorem nopUnk0B : Statement .nopUnk0B := of_encoding rfl rfl
theorem nopUnk0C : Statement .nopUnk0C := of_encoding rfl rfl
theorem nopUnk0D : Statement .nopUnk0D := of_encoding rfl rfl
theorem nopUnk0E : Statement .nopUnk0E := of_encoding rfl rfl
theorem nopUnk0F : Statement .nopUnk0F := of_encoding rfl rfl
theorem nopUnk10 : Statement .nopUnk10 := of_encoding rfl rfl
theorem nopUnk11 : Statement .nopUnk11 := of_encoding rfl rfl
theorem nopUnk12 : Statement .nopUnk12 := of_encoding rfl rfl
theorem nopUnk13 : Statement .nopUnk13 := of_encoding rfl rfl
theorem nopUnk14 : Statement .nopUnk14 := of_encoding rfl rfl
theorem nopUnk15 : Statement .nopUnk15 := of_encoding rfl rfl
theorem nopUnk16 : Statement .nopUnk16 := of_encoding rfl rfl
theorem nopUnk17 : Statement .nopUnk17 := of_encoding rfl rfl
theorem nopUnk18 : Statement .nopUnk18 := of_encoding rfl rfl
theorem nopUnk19 : Statement .nopUnk19 := of_encoding rfl rfl
theorem nopUnk1A : Statement .nopUnk1A := of_encoding rfl rfl
theorem nopUnk1B : Statement .nopUnk1B := of_encoding rfl rfl
theorem nopUnk1C : Statement .nopUnk1C := of_encoding rfl rfl
theorem nopUnk1D : Statement .nopUnk1D := of_encoding rfl rfl
theorem nopUnk1E : Statement .nopUnk1E := of_encoding rfl rfl
theorem nopUnk1F : Statement .nopUnk1F := of_encoding rfl rfl
theorem polyF3 (c : Colour) (v0 v1 v2 : Vertex) : Statement (.polyF3 c v0 v1 v2) := of_encoding rfl rfl
theorem polyAck21 : Statement .polyAck21 := of_encoding rfl rfl
theorem polyAck22 : Statement .polyAck22 := of_encoding rfl rfl
theorem polyAck23 : Statement .polyAck23 := of_encoding rfl rfl
theorem polyAck24 : Statement .polyAck24 := of_encoding rfl rfl
theorem polyAck25 : Statement .polyAck25 := of_encoding rfl rfl
theorem polyAck26 : Statement .polyAck26 := of_encoding rfl rfl
theorem polyAck27 : Statement .polyAck27 := of_encoding rfl rfl
theorem polyF4 (c : Colour) (v0 v1 v2 v3 : Vertex) : Statement (.polyF4 c v0 v1 v2 v3) := of_encoding rfl rfl
theorem polyAck29 : Statement .polyAck29 := of_encoding rfl rfl
theorem polyAck2A : Statement .polyAck2A := of_encoding rfl rfl
theorem polyAck2B : Statement .polyAck2B := of_encoding rfl rfl
theorem polyAck2C : Statement .polyAck2C := of_encoding rfl rfl
theorem polyAck2D : Statement .polyAck2D := of_encoding rfl rfl
theorem polyAck2E : Statement .polyAck2E := of_encoding rfl rfl
theorem polyAck2F : Statement .polyAck2F := of_encoding rfl rfl
theorem polyG3 (c0 : Colour) (v0 : Vertex) (c1 : Colour) (v1 : Vertex) (c2 : Colour) (v2 : Vertex) : Statement (.polyG3 c0 v0 c1 v1 c2 v2) := of_encoding rfl rfl
theorem polyAck31 : Statement .polyAck31 := of_encoding rfl rfl
theorem polyAck32 : Statement .polyAck32 := of_encoding rfl rfl
theorem polyAck33 : Statement .polyAck33 := of_encoding rfl rfl
theorem polyAck34 : Statement .polyAck34 := of_encoding rfl rfl
theorem polyAck35 : Statement .polyAck35 := of_encoding rfl rfl
theorem polyAck36 : Statement .polyAck36 := of_encoding rfl rfl
theorem polyAck37 : Statement .polyAck37 := of_encoding rfl rfl
theorem polyG4 (c0 : Colour) (v0 : Vertex) (c1 : Colour) (v1 : Vertex) (c2 : Colour) (v2 : Vertex) (c3 : Colour) (v3 : Vertex) : Statement (.polyG4 c0 v0 c1 v1 c2 v2 c3 v3) := of_encoding rfl rfl
theorem polyAck39 : Statement .polyAck39 := of_encoding rfl rfl
theorem polyAck3A : Statement .polyAck3A := of_encoding rfl rfl
theorem polyAck3B : Statement .polyAck3B := of_encoding rfl rfl
theorem polyAck3C : Statement .polyAck3C := of_encoding rfl rfl
theorem polyAck3D : Statement .polyAck3D := of_encoding rfl rfl
theorem polyAck3E : Statement .polyAck3E := of_encoding rfl rfl
theorem polyAck3F : Statement .polyAck3F := of_encoding rfl rfl
theorem lineF2 (c : Colour) (v0 v1 : Vertex) : Statement (.lineF2 c v0 v1) := of_encoding rfl rfl
theorem lineAck41 : Statement .lineAck41 := of_encoding rfl rfl
theorem lineAck42 : Statement .lineAck42 := of_encoding rfl rfl
theorem lineAck43 : Statement .lineAck43 := of_encoding rfl rfl
theorem lineAck44 : Statement .lineAck44 := of_encoding rfl rfl
theorem lineAck45 : Statement .lineAck45 := of_encoding rfl rfl
theorem lineAck46 : Statement .lineAck46 := of_encoding rfl rfl
theorem lineAck47 : Statement .lineAck47 := of_encoding rfl rfl
theorem lineAck48 : Statement .lineAck48 := of_encoding rfl rfl
theorem lineAck49 : Statement .lineAck49 := of_encoding rfl rfl
theorem lineAck4A : Statement .lineAck4A := of_encoding rfl rfl
theorem lineAck4B : Statement .lineAck4B := of_encoding rfl rfl
theorem lineAck4C : Statement .lineAck4C := of_encoding rfl rfl
theorem lineAck4D : Statement .lineAck4D := of_encoding rfl rfl
theorem lineAck4E : Statement .lineAck4E := of_encoding rfl rfl
theorem lineAck4F : Statement .lineAck4F := of_encoding rfl rfl
theorem lineG2 (c0 : Colour) (v0 : Vertex) (c1 : Colour) (v1 : Vertex) : Statement (.lineG2 c0 v0 c1 v1) := of_encoding rfl rfl
theorem lineAck51 : Statement .lineAck51 := of_encoding rfl rfl
theorem lineAck52 : Statement .lineAck52 := of_encoding rfl rfl
theorem lineAck53 : Statement .lineAck53 := of_encoding rfl rfl
theorem lineAck54 : Statement .lineAck54 := of_encoding rfl rfl
theorem lineAck55 : Statement .lineAck55 := of_encoding rfl rfl
theorem lineAck56 : Statement .lineAck56 := of_encoding rfl rfl
theorem lineAck57 : Statement .lineAck57 := of_encoding rfl rfl
theorem lineAck58 : Statement .lineAck58 := of_encoding rfl rfl
theorem lineAck59 : Statement .lineAck59 := of_encoding rfl rfl
theorem lineAck5A : Statement .lineAck5A := of_encoding rfl rfl
theorem lineAck5B : Statement .lineAck5B := of_encoding rfl rfl
theorem lineAck5C : Statement .lineAck5C := of_encoding rfl rfl
theorem lineAck5D : Statement .lineAck5D := of_encoding rfl rfl
theorem lineAck5E : Statement .lineAck5E := of_encoding rfl rfl
theorem lineAck5F : Statement .lineAck5F := of_encoding rfl rfl
theorem rectF (c : Colour) (origin : Vertex) (w h : Nat) : Statement (.rectF c origin w h) := of_encoding rfl rfl
theorem rectAck61 : Statement .rectAck61 := of_encoding rfl rfl
theorem rectAck62 : Statement .rectAck62 := of_encoding rfl rfl
theorem rectAck63 : Statement .rectAck63 := of_encoding rfl rfl
theorem rectAck64 : Statement .rectAck64 := of_encoding rfl rfl
theorem rectAck65 : Statement .rectAck65 := of_encoding rfl rfl
theorem rectAck66 : Statement .rectAck66 := of_encoding rfl rfl
theorem rectAck67 : Statement .rectAck67 := of_encoding rfl rfl
theorem rectAck68 : Statement .rectAck68 := of_encoding rfl rfl
theorem rectAck69 : Statement .rectAck69 := of_encoding rfl rfl
theorem rectAck6A : Statement .rectAck6A := of_encoding rfl rfl
theorem rectAck6B : Statement .rectAck6B := of_encoding rfl rfl
theorem rectAck6C : Statement .rectAck6C := of_encoding rfl rfl
theorem rectAck6D : Statement .rectAck6D := of_encoding rfl rfl
theorem rectAck6E : Statement .rectAck6E := of_encoding rfl rfl
theorem rectAck6F : Statement .rectAck6F := of_encoding rfl rfl
theorem rectAck70 : Statement .rectAck70 := of_encoding rfl rfl
theorem rectAck71 : Statement .rectAck71 := of_encoding rfl rfl
theorem rectAck72 : Statement .rectAck72 := of_encoding rfl rfl
theorem rectAck73 : Statement .rectAck73 := of_encoding rfl rfl
theorem rectAck74 : Statement .rectAck74 := of_encoding rfl rfl
theorem rectAck75 : Statement .rectAck75 := of_encoding rfl rfl
theorem rectAck76 : Statement .rectAck76 := of_encoding rfl rfl
theorem rectAck77 : Statement .rectAck77 := of_encoding rfl rfl
theorem rectAck78 : Statement .rectAck78 := of_encoding rfl rfl
theorem rectAck79 : Statement .rectAck79 := of_encoding rfl rfl
theorem rectAck7A : Statement .rectAck7A := of_encoding rfl rfl
theorem rectAck7B : Statement .rectAck7B := of_encoding rfl rfl
theorem rectAck7C : Statement .rectAck7C := of_encoding rfl rfl
theorem rectAck7D : Statement .rectAck7D := of_encoding rfl rfl
theorem rectAck7E : Statement .rectAck7E := of_encoding rfl rfl
theorem rectAck7F : Statement .rectAck7F := of_encoding rfl rfl
theorem xferVv80 : Statement .xferVv80 := of_encoding rfl rfl
theorem xferVv81 : Statement .xferVv81 := of_encoding rfl rfl
theorem xferVv82 : Statement .xferVv82 := of_encoding rfl rfl
theorem xferVv83 : Statement .xferVv83 := of_encoding rfl rfl
theorem xferVv84 : Statement .xferVv84 := of_encoding rfl rfl
theorem xferVv85 : Statement .xferVv85 := of_encoding rfl rfl
theorem xferVv86 : Statement .xferVv86 := of_encoding rfl rfl
theorem xferVv87 : Statement .xferVv87 := of_encoding rfl rfl
theorem xferVv88 : Statement .xferVv88 := of_encoding rfl rfl
theorem xferVv89 : Statement .xferVv89 := of_encoding rfl rfl
theorem xferVv8A : Statement .xferVv8A := of_encoding rfl rfl
theorem xferVv8B : Statement .xferVv8B := of_encoding rfl rfl
theorem xferVv8C : Statement .xferVv8C := of_encoding rfl rfl
theorem xferVv8D : Statement .xferVv8D := of_encoding rfl rfl
theorem xferVv8E : Statement .xferVv8E := of_encoding rfl rfl
theorem xferVv8F : Statement .xferVv8F := of_encoding rfl rfl
theorem xferVv90 : Statement .xferVv90 := of_encoding rfl rfl
theorem xferVv91 : Statement .xferVv91 := of_encoding rfl rfl
theorem xferVv92 : Statement .xferVv92 := of_encoding rfl rfl
theorem xferVv93 : Statement .xferVv93 := of_encoding rfl rfl
theorem xferVv94 : Statement .xferVv94 := of_encoding rfl rfl
theorem xferVv95 : Statement .xferVv95 := of_encoding rfl rfl
theorem xferVv96 : Statement .xferVv96 := of_encoding rfl rfl
theorem xferVv97 : Statement .xferVv97 := of_encoding rfl rfl
theorem xferVv98 : Statement .xferVv98 := of_encoding rfl rfl
theorem xferVv99 : Statement .xferVv99 := of_encoding rfl rfl
theorem xferVv9A : Statement .xferVv9A := of_encoding rfl rfl
theorem xferVv9B : Statement .xferVv9B := of_encoding rfl rfl
theorem xferVv9C : Statement .xferVv9C := of_encoding rfl rfl
theorem xferVv9D : Statement .xferVv9D := of_encoding rfl rfl
theorem xferVv9E : Statement .xferVv9E := of_encoding rfl rfl
theorem xferVv9F : Statement .xferVv9F := of_encoding rfl rfl
theorem xferCvA0 : Statement .xferCvA0 := of_encoding rfl rfl
theorem xferCvA1 : Statement .xferCvA1 := of_encoding rfl rfl
theorem xferCvA2 : Statement .xferCvA2 := of_encoding rfl rfl
theorem xferCvA3 : Statement .xferCvA3 := of_encoding rfl rfl
theorem xferCvA4 : Statement .xferCvA4 := of_encoding rfl rfl
theorem xferCvA5 : Statement .xferCvA5 := of_encoding rfl rfl
theorem xferCvA6 : Statement .xferCvA6 := of_encoding rfl rfl
theorem xferCvA7 : Statement .xferCvA7 := of_encoding rfl rfl
theorem xferCvA8 : Statement .xferCvA8 := of_encoding rfl rfl
theorem xferCvA9 : Statement .xferCvA9 := of_encoding rfl rfl
theorem xferCvAA : Statement .xferCvAA := of_encoding rfl rfl
theorem xferCvAB : Statement .xferCvAB := of_encoding rfl rfl
theorem xferCvAC : Statement .xferCvAC := of_encoding rfl rfl
theorem xferCvAD : Statement .xferCvAD := of_encoding rfl rfl
theorem xferCvAE : Statement .xferCvAE := of_encoding rfl rfl
theorem xferCvAF : Statement .xferCvAF := of_encoding rfl rfl
theorem xferCvB0 : Statement .xferCvB0 := of_encoding rfl rfl
theorem xferCvB1 : Statement .xferCvB1 := of_encoding rfl rfl
theorem xferCvB2 : Statement .xferCvB2 := of_encoding rfl rfl
theorem xferCvB3 : Statement .xferCvB3 := of_encoding rfl rfl
theorem xferCvB4 : Statement .xferCvB4 := of_encoding rfl rfl
theorem xferCvB5 : Statement .xferCvB5 := of_encoding rfl rfl
theorem xferCvB6 : Statement .xferCvB6 := of_encoding rfl rfl
theorem xferCvB7 : Statement .xferCvB7 := of_encoding rfl rfl
theorem xferCvB8 : Statement .xferCvB8 := of_encoding rfl rfl
theorem xferCvB9 : Statement .xferCvB9 := of_encoding rfl rfl
theorem xferCvBA : Statement .xferCvBA := of_encoding rfl rfl
theorem xferCvBB : Statement .xferCvBB := of_encoding rfl rfl
theorem xferCvBC : Statement .xferCvBC := of_encoding rfl rfl
theorem xferCvBD : Statement .xferCvBD := of_encoding rfl rfl
theorem xferCvBE : Statement .xferCvBE := of_encoding rfl rfl
theorem xferCvBF : Statement .xferCvBF := of_encoding rfl rfl
theorem xferVcC0 : Statement .xferVcC0 := of_encoding rfl rfl
theorem xferVcC1 : Statement .xferVcC1 := of_encoding rfl rfl
theorem xferVcC2 : Statement .xferVcC2 := of_encoding rfl rfl
theorem xferVcC3 : Statement .xferVcC3 := of_encoding rfl rfl
theorem xferVcC4 : Statement .xferVcC4 := of_encoding rfl rfl
theorem xferVcC5 : Statement .xferVcC5 := of_encoding rfl rfl
theorem xferVcC6 : Statement .xferVcC6 := of_encoding rfl rfl
theorem xferVcC7 : Statement .xferVcC7 := of_encoding rfl rfl
theorem xferVcC8 : Statement .xferVcC8 := of_encoding rfl rfl
theorem xferVcC9 : Statement .xferVcC9 := of_encoding rfl rfl
theorem xferVcCA : Statement .xferVcCA := of_encoding rfl rfl
theorem xferVcCB : Statement .xferVcCB := of_encoding rfl rfl
theorem xferVcCC : Statement .xferVcCC := of_encoding rfl rfl
theorem xferVcCD : Statement .xferVcCD := of_encoding rfl rfl
theorem xferVcCE : Statement .xferVcCE := of_encoding rfl rfl
theorem xferVcCF : Statement .xferVcCF := of_encoding rfl rfl
theorem xferVcD0 : Statement .xferVcD0 := of_encoding rfl rfl
theorem xferVcD1 : Statement .xferVcD1 := of_encoding rfl rfl
theorem xferVcD2 : Statement .xferVcD2 := of_encoding rfl rfl
theorem xferVcD3 : Statement .xferVcD3 := of_encoding rfl rfl
theorem xferVcD4 : Statement .xferVcD4 := of_encoding rfl rfl
theorem xferVcD5 : Statement .xferVcD5 := of_encoding rfl rfl
theorem xferVcD6 : Statement .xferVcD6 := of_encoding rfl rfl
theorem xferVcD7 : Statement .xferVcD7 := of_encoding rfl rfl
theorem xferVcD8 : Statement .xferVcD8 := of_encoding rfl rfl
theorem xferVcD9 : Statement .xferVcD9 := of_encoding rfl rfl
theorem xferVcDA : Statement .xferVcDA := of_encoding rfl rfl
theorem xferVcDB : Statement .xferVcDB := of_encoding rfl rfl
theorem xferVcDC : Statement .xferVcDC := of_encoding rfl rfl
theorem xferVcDD : Statement .xferVcDD := of_encoding rfl rfl
theorem xferVcDE : Statement .xferVcDE := of_encoding rfl rfl
theorem xferVcDF : Statement .xferVcDF := of_encoding rfl rfl
theorem nopUnkE0 : Statement .nopUnkE0 := of_encoding rfl rfl
theorem tpage (tp : Nat) : Statement (.tpage tp) := of_encoding rfl rfl
theorem twin : Statement .twin := of_encoding rfl rfl
theorem clipTl (x y : Nat) : Statement (.clipTl x y) := of_encoding rfl rfl
theorem clipBr (x y : Nat) : Statement (.clipBr x y) := of_encoding rfl rfl
theorem drawofs (dx dy : Int) : Statement (.drawofs dx dy) := of_encoding rfl rfl
theorem maskbits (set chk : Bool) : Statement (.maskbits set chk) := of_encoding rfl rfl
theorem nopUnkE7 : Statement .nopUnkE7 := of_encoding rfl rfl
theorem nopUnkE8 : Statement .nopUnkE8 := of_encoding rfl rfl
theorem nopUnkE9 : Statement .nopUnkE9 := of_encoding rfl rfl
theorem nopUnkEA : Statement .nopUnkEA := of_encoding rfl rfl
theorem nopUnkEB : Statement .nopUnkEB := of_encoding rfl rfl
theorem nopUnkEC : Statement .nopUnkEC := of_encoding rfl rfl
theorem nopUnkED : Statement .nopUnkED := of_encoding rfl rfl
theorem nopUnkEE : Statement .nopUnkEE := of_encoding rfl rfl
theorem nopUnkEF : Statement .nopUnkEF := of_encoding rfl rfl
theorem nopUnkF0 : Statement .nopUnkF0 := of_encoding rfl rfl
theorem nopUnkF1 : Statement .nopUnkF1 := of_encoding rfl rfl
theorem nopUnkF2 : Statement .nopUnkF2 := of_encoding rfl rfl
theorem nopUnkF3 : Statement .nopUnkF3 := of_encoding rfl rfl
theorem nopUnkF4 : Statement .nopUnkF4 := of_encoding rfl rfl
theorem nopUnkF5 : Statement .nopUnkF5 := of_encoding rfl rfl
theorem nopUnkF6 : Statement .nopUnkF6 := of_encoding rfl rfl
theorem nopUnkF7 : Statement .nopUnkF7 := of_encoding rfl rfl
theorem nopUnkF8 : Statement .nopUnkF8 := of_encoding rfl rfl
theorem nopUnkF9 : Statement .nopUnkF9 := of_encoding rfl rfl
theorem nopUnkFA : Statement .nopUnkFA := of_encoding rfl rfl
theorem nopUnkFB : Statement .nopUnkFB := of_encoding rfl rfl
theorem nopUnkFC : Statement .nopUnkFC := of_encoding rfl rfl
theorem nopUnkFD : Statement .nopUnkFD := of_encoding rfl rfl
theorem nopUnkFE : Statement .nopUnkFE := of_encoding rfl rfl
theorem nopUnkFF : Statement .nopUnkFF := of_encoding rfl rfl

end Sys2Proof.Laws.Framing
end

