-- ==== Sys2Proof/Laws/Decode.lean ====
section
/-! SUPPORT. What the packet copy and the decoder do, said once. -/

namespace Sys2Proof

/-- The packet copy, entry by entry (R96): the first words are the new ones, those above are not written. -/
theorem copyWords_getElem (ws : List Word) (old : Packet) (k : Nat) (hk : k < 16) :
    (copyWords ws old)[k] = if h : k < ws.length then ws[k] else old[k] := by
  simp only [copyWords, Vector.getElem_mk, List.getElem_toArray, List.getElem_take]
  by_cases h : k < ws.length
  · simp [h]
  · simp only [List.getElem_append, h, ↓reduceDIte, List.getElem_drop, Vector.getElem_toList]
    congr 1
    omega

/-- Entry `n` of the opcode map reads an instruction of opcode `n` (R73). -/
theorem opcodeOf_opcodeMap (p : Packet) (n : Nat) (h : n < opcodeMap.length) :
    opcodeOf (opcodeMap[n] p) = BitVec.ofNat 8 n := by
  have hn : n < 256 := opcodeMap_length ▸ h
  interval_cases n <;> rfl

/-- The instruction in the packet buffer has the opcode of its first word (R73). -/
theorem opcodeOf_decodePacket (p : Packet) : opcodeOf (decodePacket p) = opcodeField p[0] := by
  rw [decodePacket, opcodeOf_opcodeMap]
  simp

/-- What the decoder answers when it answers an instruction. -/
theorem decode_ok {ws rest : List Word} {i : Instr} (h : decode ws = .ok (i, rest)) :
    ∃ w0 tail, ws = w0 :: tail ∧ 1 + len (opcodeField w0) ≤ ws.length ∧
      i = decodePacket (copyWords (ws.take (1 + len (opcodeField w0))) (Vector.replicate 16 0#32)) ∧
      rest = ws.drop (1 + len (opcodeField w0)) := by
  cases ws with
  | nil => simp [decode] at h
  | cons w0 tail =>
    rw [decode] at h
    split at h
    · cases h
    · rename_i hlen
      cases h
      exact ⟨w0, tail, rfl, by omega, rfl, rfl⟩

/-- A decoded instruction has the opcode of the first word (R60, R93). -/
theorem opcodeOf_of_decode {w0 : Word} {tail rest : List Word} {i : Instr}
    (h : decode (w0 :: tail) = .ok (i, rest)) : opcodeOf i = opcodeField w0 := by
  obtain ⟨w, tl, hws, -, rfl, -⟩ := decode_ok h
  cases hws
  rw [opcodeOf_decodePacket, copyWords_getElem]
  simp [Nat.one_add]

end Sys2Proof
end

