-- ==== Sys2Proof/Laws/State.lean ====
section
/-! SUPPORT. One lemma per field for every named update of the state, so that no proof unfolds a record update. -/

namespace Sys2Proof.Machine

/-! ### packetCopy -/

@[simp] theorem packetCopy_texStat (operands : Nat) (s : State) : (packetCopy operands s).texStat = s.texStat := rfl
@[simp] theorem packetCopy_clipX1 (operands : Nat) (s : State) : (packetCopy operands s).clipX1 = s.clipX1 := rfl
@[simp] theorem packetCopy_clipY1 (operands : Nat) (s : State) : (packetCopy operands s).clipY1 = s.clipY1 := rfl
@[simp] theorem packetCopy_clipX2 (operands : Nat) (s : State) : (packetCopy operands s).clipX2 = s.clipX2 := rfl
@[simp] theorem packetCopy_clipY2 (operands : Nat) (s : State) : (packetCopy operands s).clipY2 = s.clipY2 := rfl
@[simp] theorem packetCopy_ofsX (operands : Nat) (s : State) : (packetCopy operands s).ofsX = s.ofsX := rfl
@[simp] theorem packetCopy_ofsY (operands : Nat) (s : State) : (packetCopy operands s).ofsY = s.ofsY := rfl
@[simp] theorem packetCopy_maskSet (operands : Nat) (s : State) : (packetCopy operands s).maskSet = s.maskSet := rfl
@[simp] theorem packetCopy_maskChk (operands : Nat) (s : State) : (packetCopy operands s).maskChk = s.maskChk := rfl
@[simp] theorem packetCopy_status (operands : Nat) (s : State) : (packetCopy operands s).status = s.status := rfl
@[simp] theorem packetCopy_pkt (operands : Nat) (s : State) : (packetCopy operands s).pkt = copyWords ((s.buf.drop s.pos).take (1 + operands)) s.pkt := rfl
@[simp] theorem packetCopy_pos (operands : Nat) (s : State) : (packetCopy operands s).pos = s.pos := rfl
@[simp] theorem packetCopy_lastOp (operands : Nat) (s : State) : (packetCopy operands s).lastOp = s.lastOp := rfl
@[simp] theorem packetCopy_cycCarry (operands : Nat) (s : State) : (packetCopy operands s).cycCarry = s.cycCarry := rfl
@[simp] theorem packetCopy_cycSum (operands : Nat) (s : State) : (packetCopy operands s).cycSum = s.cycSum := rfl
@[simp] theorem packetCopy_buf (operands : Nat) (s : State) : (packetCopy operands s).buf = s.buf := rfl
@[simp] theorem packetCopy_out (operands : Nat) (s : State) : (packetCopy operands s).out = s.out := rfl
@[simp] theorem packetCopy_batchOpen (operands : Nat) (s : State) : (packetCopy operands s).batchOpen = s.batchOpen := rfl
@[simp] theorem packetCopy_phase (operands : Nat) (s : State) : (packetCopy operands s).phase = s.phase := rfl
@[simp] theorem packetCopy_script (operands : Nat) (s : State) : (packetCopy operands s).script = s.script := rfl
@[simp] theorem packetCopy_draws (operands : Nat) (s : State) : (packetCopy operands s).draws = s.draws := rfl

/-! ### advance -/

@[simp] theorem advance_texStat (op : Byte) (s : State) : (advance op s).texStat = s.texStat := rfl
@[simp] theorem advance_clipX1 (op : Byte) (s : State) : (advance op s).clipX1 = s.clipX1 := rfl
@[simp] theorem advance_clipY1 (op : Byte) (s : State) : (advance op s).clipY1 = s.clipY1 := rfl
@[simp] theorem advance_clipX2 (op : Byte) (s : State) : (advance op s).clipX2 = s.clipX2 := rfl
@[simp] theorem advance_clipY2 (op : Byte) (s : State) : (advance op s).clipY2 = s.clipY2 := rfl
@[simp] theorem advance_ofsX (op : Byte) (s : State) : (advance op s).ofsX = s.ofsX := rfl
@[simp] theorem advance_ofsY (op : Byte) (s : State) : (advance op s).ofsY = s.ofsY := rfl
@[simp] theorem advance_maskSet (op : Byte) (s : State) : (advance op s).maskSet = s.maskSet := rfl
@[simp] theorem advance_maskChk (op : Byte) (s : State) : (advance op s).maskChk = s.maskChk := rfl
@[simp] theorem advance_status (op : Byte) (s : State) : (advance op s).status = s.status := rfl
@[simp] theorem advance_pkt (op : Byte) (s : State) : (advance op s).pkt = s.pkt := rfl
@[simp] theorem advance_pos (op : Byte) (s : State) : (advance op s).pos = s.pos + 1 + len op := rfl
@[simp] theorem advance_lastOp (op : Byte) (s : State) : (advance op s).lastOp = .opcode op := rfl
@[simp] theorem advance_cycCarry (op : Byte) (s : State) : (advance op s).cycCarry = s.cycCarry := rfl
@[simp] theorem advance_cycSum (op : Byte) (s : State) : (advance op s).cycSum = s.cycSum := rfl
@[simp] theorem advance_buf (op : Byte) (s : State) : (advance op s).buf = s.buf := rfl
@[simp] theorem advance_out (op : Byte) (s : State) : (advance op s).out = s.out := rfl
@[simp] theorem advance_batchOpen (op : Byte) (s : State) : (advance op s).batchOpen = s.batchOpen := rfl
@[simp] theorem advance_phase (op : Byte) (s : State) : (advance op s).phase = s.phase := rfl
@[simp] theorem advance_script (op : Byte) (s : State) : (advance op s).script = s.script := rfl
@[simp] theorem advance_draws (op : Byte) (s : State) : (advance op s).draws = s.draws := rfl

/-! ### discardPacket -/

@[simp] theorem discardPacket_texStat (s : State) : (discardPacket s).texStat = s.texStat := rfl
@[simp] theorem discardPacket_clipX1 (s : State) : (discardPacket s).clipX1 = s.clipX1 := rfl
@[simp] theorem discardPacket_clipY1 (s : State) : (discardPacket s).clipY1 = s.clipY1 := rfl
@[simp] theorem discardPacket_clipX2 (s : State) : (discardPacket s).clipX2 = s.clipX2 := rfl
@[simp] theorem discardPacket_clipY2 (s : State) : (discardPacket s).clipY2 = s.clipY2 := rfl
@[simp] theorem discardPacket_ofsX (s : State) : (discardPacket s).ofsX = s.ofsX := rfl
@[simp] theorem discardPacket_ofsY (s : State) : (discardPacket s).ofsY = s.ofsY := rfl
@[simp] theorem discardPacket_maskSet (s : State) : (discardPacket s).maskSet = s.maskSet := rfl
@[simp] theorem discardPacket_maskChk (s : State) : (discardPacket s).maskChk = s.maskChk := rfl
@[simp] theorem discardPacket_status (s : State) : (discardPacket s).status = s.status := rfl
@[simp] theorem discardPacket_pkt (s : State) : (discardPacket s).pkt = Config.freePacket s.draws := rfl
@[simp] theorem discardPacket_pos (s : State) : (discardPacket s).pos = s.pos := rfl
@[simp] theorem discardPacket_lastOp (s : State) : (discardPacket s).lastOp = s.lastOp := rfl
@[simp] theorem discardPacket_cycCarry (s : State) : (discardPacket s).cycCarry = s.cycCarry := rfl
@[simp] theorem discardPacket_cycSum (s : State) : (discardPacket s).cycSum = s.cycSum := rfl
@[simp] theorem discardPacket_buf (s : State) : (discardPacket s).buf = s.buf := rfl
@[simp] theorem discardPacket_out (s : State) : (discardPacket s).out = s.out := rfl
@[simp] theorem discardPacket_batchOpen (s : State) : (discardPacket s).batchOpen = s.batchOpen := rfl
@[simp] theorem discardPacket_phase (s : State) : (discardPacket s).phase = s.phase := rfl
@[simp] theorem discardPacket_script (s : State) : (discardPacket s).script = s.script := rfl
@[simp] theorem discardPacket_draws (s : State) : (discardPacket s).draws = s.draws + 1 := rfl

/-! ### writeMaskFlags -/

@[simp] theorem writeMaskFlags_texStat (set chk : Bool) (s : State) : (writeMaskFlags set chk s).texStat = s.texStat := rfl
@[simp] theorem writeMaskFlags_clipX1 (set chk : Bool) (s : State) : (writeMaskFlags set chk s).clipX1 = s.clipX1 := rfl
@[simp] theorem writeMaskFlags_clipY1 (set chk : Bool) (s : State) : (writeMaskFlags set chk s).clipY1 = s.clipY1 := rfl
@[simp] theorem writeMaskFlags_clipX2 (set chk : Bool) (s : State) : (writeMaskFlags set chk s).clipX2 = s.clipX2 := rfl
@[simp] theorem writeMaskFlags_clipY2 (set chk : Bool) (s : State) : (writeMaskFlags set chk s).clipY2 = s.clipY2 := rfl
@[simp] theorem writeMaskFlags_ofsX (set chk : Bool) (s : State) : (writeMaskFlags set chk s).ofsX = s.ofsX := rfl
@[simp] theorem writeMaskFlags_ofsY (set chk : Bool) (s : State) : (writeMaskFlags set chk s).ofsY = s.ofsY := rfl
@[simp] theorem writeMaskFlags_maskSet (set chk : Bool) (s : State) : (writeMaskFlags set chk s).maskSet = set := rfl
@[simp] theorem writeMaskFlags_maskChk (set chk : Bool) (s : State) : (writeMaskFlags set chk s).maskChk = chk := rfl
@[simp] theorem writeMaskFlags_status (set chk : Bool) (s : State) : (writeMaskFlags set chk s).status = s.status := rfl
@[simp] theorem writeMaskFlags_pkt (set chk : Bool) (s : State) : (writeMaskFlags set chk s).pkt = s.pkt := rfl
@[simp] theorem writeMaskFlags_pos (set chk : Bool) (s : State) : (writeMaskFlags set chk s).pos = s.pos := rfl
@[simp] theorem writeMaskFlags_lastOp (set chk : Bool) (s : State) : (writeMaskFlags set chk s).lastOp = s.lastOp := rfl
@[simp] theorem writeMaskFlags_cycCarry (set chk : Bool) (s : State) : (writeMaskFlags set chk s).cycCarry = s.cycCarry := rfl
@[simp] theorem writeMaskFlags_cycSum (set chk : Bool) (s : State) : (writeMaskFlags set chk s).cycSum = s.cycSum := rfl
@[simp] theorem writeMaskFlags_buf (set chk : Bool) (s : State) : (writeMaskFlags set chk s).buf = s.buf := rfl
@[simp] theorem writeMaskFlags_out (set chk : Bool) (s : State) : (writeMaskFlags set chk s).out = s.out := rfl
@[simp] theorem writeMaskFlags_batchOpen (set chk : Bool) (s : State) : (writeMaskFlags set chk s).batchOpen = s.batchOpen := rfl
@[simp] theorem writeMaskFlags_phase (set chk : Bool) (s : State) : (writeMaskFlags set chk s).phase = s.phase := rfl
@[simp] theorem writeMaskFlags_script (set chk : Bool) (s : State) : (writeMaskFlags set chk s).script = s.script := rfl
@[simp] theorem writeMaskFlags_draws (set chk : Bool) (s : State) : (writeMaskFlags set chk s).draws = s.draws := rfl

/-! ### writeBackStatus -/

@[simp] theorem writeBackStatus_texStat (s : State) : (writeBackStatus s).texStat = s.texStat := rfl
@[simp] theorem writeBackStatus_clipX1 (s : State) : (writeBackStatus s).clipX1 = s.clipX1 := rfl
@[simp] theorem writeBackStatus_clipY1 (s : State) : (writeBackStatus s).clipY1 = s.clipY1 := rfl
@[simp] theorem writeBackStatus_clipX2 (s : State) : (writeBackStatus s).clipX2 = s.clipX2 := rfl
@[simp] theorem writeBackStatus_clipY2 (s : State) : (writeBackStatus s).clipY2 = s.clipY2 := rfl
@[simp] theorem writeBackStatus_ofsX (s : State) : (writeBackStatus s).ofsX = s.ofsX := rfl
@[simp] theorem writeBackStatus_ofsY (s : State) : (writeBackStatus s).ofsY = s.ofsY := rfl
@[simp] theorem writeBackStatus_maskSet (s : State) : (writeBackStatus s).maskSet = s.maskSet := rfl
@[simp] theorem writeBackStatus_maskChk (s : State) : (writeBackStatus s).maskChk = s.maskChk := rfl
@[simp] theorem writeBackStatus_status (s : State) : (writeBackStatus s).status = statusWord (statusHost s.status) s.maskChk s.maskSet s.texStat := rfl
@[simp] theorem writeBackStatus_pkt (s : State) : (writeBackStatus s).pkt = s.pkt := rfl
@[simp] theorem writeBackStatus_pos (s : State) : (writeBackStatus s).pos = s.pos := rfl
@[simp] theorem writeBackStatus_lastOp (s : State) : (writeBackStatus s).lastOp = s.lastOp := rfl
@[simp] theorem writeBackStatus_cycCarry (s : State) : (writeBackStatus s).cycCarry = s.cycCarry := rfl
@[simp] theorem writeBackStatus_cycSum (s : State) : (writeBackStatus s).cycSum = s.cycSum := rfl
@[simp] theorem writeBackStatus_buf (s : State) : (writeBackStatus s).buf = s.buf := rfl
@[simp] theorem writeBackStatus_out (s : State) : (writeBackStatus s).out = s.out := rfl
@[simp] theorem writeBackStatus_batchOpen (s : State) : (writeBackStatus s).batchOpen = s.batchOpen := rfl
@[simp] theorem writeBackStatus_phase (s : State) : (writeBackStatus s).phase = s.phase := rfl
@[simp] theorem writeBackStatus_script (s : State) : (writeBackStatus s).script = s.script := rfl
@[simp] theorem writeBackStatus_draws (s : State) : (writeBackStatus s).draws = s.draws := rfl

/-! ### exitInvocation -/

@[simp] theorem exitInvocation_texStat (s : State) : (exitInvocation s).texStat = s.texStat := rfl
@[simp] theorem exitInvocation_clipX1 (s : State) : (exitInvocation s).clipX1 = s.clipX1 := rfl
@[simp] theorem exitInvocation_clipY1 (s : State) : (exitInvocation s).clipY1 = s.clipY1 := rfl
@[simp] theorem exitInvocation_clipX2 (s : State) : (exitInvocation s).clipX2 = s.clipX2 := rfl
@[simp] theorem exitInvocation_clipY2 (s : State) : (exitInvocation s).clipY2 = s.clipY2 := rfl
@[simp] theorem exitInvocation_ofsX (s : State) : (exitInvocation s).ofsX = s.ofsX := rfl
@[simp] theorem exitInvocation_ofsY (s : State) : (exitInvocation s).ofsY = s.ofsY := rfl
@[simp] theorem exitInvocation_maskSet (s : State) : (exitInvocation s).maskSet = s.maskSet := rfl
@[simp] theorem exitInvocation_maskChk (s : State) : (exitInvocation s).maskChk = s.maskChk := rfl
@[simp] theorem exitInvocation_status (s : State) : (exitInvocation s).status = statusWord (statusHost s.status) s.maskChk s.maskSet s.texStat := rfl
@[simp] theorem exitInvocation_pkt (s : State) : (exitInvocation s).pkt = s.pkt := rfl
@[simp] theorem exitInvocation_pos (s : State) : (exitInvocation s).pos = s.pos := rfl
@[simp] theorem exitInvocation_lastOp (s : State) : (exitInvocation s).lastOp = s.lastOp := rfl
@[simp] theorem exitInvocation_cycCarry (s : State) : (exitInvocation s).cycCarry = s.cycCarry := rfl
@[simp] theorem exitInvocation_cycSum (s : State) : (exitInvocation s).cycSum = s.cycSum := rfl
@[simp] theorem exitInvocation_buf (s : State) : (exitInvocation s).buf = s.buf := rfl
@[simp] theorem exitInvocation_out (s : State) : (exitInvocation s).out = s.out := rfl
@[simp] theorem exitInvocation_batchOpen (s : State) : (exitInvocation s).batchOpen = s.batchOpen := rfl
@[simp] theorem exitInvocation_phase (s : State) : (exitInvocation s).phase = .idle := rfl
@[simp] theorem exitInvocation_script (s : State) : (exitInvocation s).script = s.script := rfl
@[simp] theorem exitInvocation_draws (s : State) : (exitInvocation s).draws = s.draws := rfl

/-! ### stopIncomplete -/

@[simp] theorem stopIncomplete_texStat (s : State) : (stopIncomplete s).texStat = s.texStat := rfl
@[simp] theorem stopIncomplete_clipX1 (s : State) : (stopIncomplete s).clipX1 = s.clipX1 := rfl
@[simp] theorem stopIncomplete_clipY1 (s : State) : (stopIncomplete s).clipY1 = s.clipY1 := rfl
@[simp] theorem stopIncomplete_clipX2 (s : State) : (stopIncomplete s).clipX2 = s.clipX2 := rfl
@[simp] theorem stopIncomplete_clipY2 (s : State) : (stopIncomplete s).clipY2 = s.clipY2 := rfl
@[simp] theorem stopIncomplete_ofsX (s : State) : (stopIncomplete s).ofsX = s.ofsX := rfl
@[simp] theorem stopIncomplete_ofsY (s : State) : (stopIncomplete s).ofsY = s.ofsY := rfl
@[simp] theorem stopIncomplete_maskSet (s : State) : (stopIncomplete s).maskSet = s.maskSet := rfl
@[simp] theorem stopIncomplete_maskChk (s : State) : (stopIncomplete s).maskChk = s.maskChk := rfl
@[simp] theorem stopIncomplete_status (s : State) : (stopIncomplete s).status = statusWord (statusHost s.status) s.maskChk s.maskSet s.texStat := rfl
@[simp] theorem stopIncomplete_pkt (s : State) : (stopIncomplete s).pkt = s.pkt := rfl
@[simp] theorem stopIncomplete_pos (s : State) : (stopIncomplete s).pos = s.pos := rfl
@[simp] theorem stopIncomplete_lastOp (s : State) : (stopIncomplete s).lastOp = .incomplete := rfl
@[simp] theorem stopIncomplete_cycCarry (s : State) : (stopIncomplete s).cycCarry = s.cycCarry := rfl
@[simp] theorem stopIncomplete_cycSum (s : State) : (stopIncomplete s).cycSum = s.cycSum := rfl
@[simp] theorem stopIncomplete_buf (s : State) : (stopIncomplete s).buf = s.buf := rfl
@[simp] theorem stopIncomplete_out (s : State) : (stopIncomplete s).out = s.out := rfl
@[simp] theorem stopIncomplete_batchOpen (s : State) : (stopIncomplete s).batchOpen = s.batchOpen := rfl
@[simp] theorem stopIncomplete_phase (s : State) : (stopIncomplete s).phase = .idle := rfl
@[simp] theorem stopIncomplete_script (s : State) : (stopIncomplete s).script = s.script := rfl
@[simp] theorem stopIncomplete_draws (s : State) : (stopIncomplete s).draws = s.draws := rfl

/-! ### invoke -/

@[simp] theorem invoke_texStat (words : List Word) (carry sum : Int) (s : State) : (invoke words carry sum s).texStat = s.texStat := rfl
@[simp] theorem invoke_clipX1 (words : List Word) (carry sum : Int) (s : State) : (invoke words carry sum s).clipX1 = s.clipX1 := rfl
@[simp] theorem invoke_clipY1 (words : List Word) (carry sum : Int) (s : State) : (invoke words carry sum s).clipY1 = s.clipY1 := rfl
@[simp] theorem invoke_clipX2 (words : List Word) (carry sum : Int) (s : State) : (invoke words carry sum s).clipX2 = s.clipX2 := rfl
@[simp] theorem invoke_clipY2 (words : List Word) (carry sum : Int) (s : State) : (invoke words carry sum s).clipY2 = s.clipY2 := rfl
@[simp] theorem invoke_ofsX (words : List Word) (carry sum : Int) (s : State) : (invoke words carry sum s).ofsX = s.ofsX := rfl
@[simp] theorem invoke_ofsY (words : List Word) (carry sum : Int) (s : State) : (invoke words carry sum s).ofsY = s.ofsY := rfl
@[simp] theorem invoke_maskSet (words : List Word) (carry sum : Int) (s : State) : (invoke words carry sum s).maskSet = s.maskSet := rfl
@[simp] theorem invoke_maskChk (words : List Word) (carry sum : Int) (s : State) : (invoke words carry sum s).maskChk = s.maskChk := rfl
@[simp] theorem invoke_status (words : List Word) (carry sum : Int) (s : State) : (invoke words carry sum s).status = s.status := rfl
@[simp] theorem invoke_pkt (words : List Word) (carry sum : Int) (s : State) : (invoke words carry sum s).pkt = Config.freePacket s.draws := rfl
@[simp] theorem invoke_pos (words : List Word) (carry sum : Int) (s : State) : (invoke words carry sum s).pos = 0 := rfl
@[simp] theorem invoke_lastOp (words : List Word) (carry sum : Int) (s : State) : (invoke words carry sum s).lastOp = Config.freeLastOp s.draws := rfl
@[simp] theorem invoke_cycCarry (words : List Word) (carry sum : Int) (s : State) : (invoke words carry sum s).cycCarry = carry := rfl
@[simp] theorem invoke_cycSum (words : List Word) (carry sum : Int) (s : State) : (invoke words carry sum s).cycSum = sum := rfl
@[simp] theorem invoke_buf (words : List Word) (carry sum : Int) (s : State) : (invoke words carry sum s).buf = words := rfl
@[simp] theorem invoke_out (words : List Word) (carry sum : Int) (s : State) : (invoke words carry sum s).out = s.out := rfl
@[simp] theorem invoke_batchOpen (words : List Word) (carry sum : Int) (s : State) : (invoke words carry sum s).batchOpen = s.batchOpen := rfl
@[simp] theorem invoke_phase (words : List Word) (carry sum : Int) (s : State) : (invoke words carry sum s).phase = .running := rfl
@[simp] theorem invoke_script (words : List Word) (carry sum : Int) (s : State) : (invoke words carry sum s).script = s.script := rfl
@[simp] theorem invoke_draws (words : List Word) (carry sum : Int) (s : State) : (invoke words carry sum s).draws = s.draws + 1 := rfl

/-! ### account: only the two counters change (R98) -/

@[simp] theorem account_texStat (a : Acct) (k : Nat) (s : State) : (account a k s).texStat = s.texStat := by cases a <;> rfl
@[simp] theorem account_clipX1 (a : Acct) (k : Nat) (s : State) : (account a k s).clipX1 = s.clipX1 := by cases a <;> rfl
@[simp] theorem account_clipY1 (a : Acct) (k : Nat) (s : State) : (account a k s).clipY1 = s.clipY1 := by cases a <;> rfl
@[simp] theorem account_clipX2 (a : Acct) (k : Nat) (s : State) : (account a k s).clipX2 = s.clipX2 := by cases a <;> rfl
@[simp] theorem account_clipY2 (a : Acct) (k : Nat) (s : State) : (account a k s).clipY2 = s.clipY2 := by cases a <;> rfl
@[simp] theorem account_ofsX (a : Acct) (k : Nat) (s : State) : (account a k s).ofsX = s.ofsX := by cases a <;> rfl
@[simp] theorem account_ofsY (a : Acct) (k : Nat) (s : State) : (account a k s).ofsY = s.ofsY := by cases a <;> rfl
@[simp] theorem account_maskSet (a : Acct) (k : Nat) (s : State) : (account a k s).maskSet = s.maskSet := by cases a <;> rfl
@[simp] theorem account_maskChk (a : Acct) (k : Nat) (s : State) : (account a k s).maskChk = s.maskChk := by cases a <;> rfl
@[simp] theorem account_status (a : Acct) (k : Nat) (s : State) : (account a k s).status = s.status := by cases a <;> rfl
@[simp] theorem account_pkt (a : Acct) (k : Nat) (s : State) : (account a k s).pkt = s.pkt := by cases a <;> rfl
@[simp] theorem account_pos (a : Acct) (k : Nat) (s : State) : (account a k s).pos = s.pos := by cases a <;> rfl
@[simp] theorem account_lastOp (a : Acct) (k : Nat) (s : State) : (account a k s).lastOp = s.lastOp := by cases a <;> rfl
@[simp] theorem account_buf (a : Acct) (k : Nat) (s : State) : (account a k s).buf = s.buf := by cases a <;> rfl
@[simp] theorem account_out (a : Acct) (k : Nat) (s : State) : (account a k s).out = s.out := by cases a <;> rfl
@[simp] theorem account_batchOpen (a : Acct) (k : Nat) (s : State) : (account a k s).batchOpen = s.batchOpen := by cases a <;> rfl
@[simp] theorem account_phase (a : Acct) (k : Nat) (s : State) : (account a k s).phase = s.phase := by cases a <;> rfl
@[simp] theorem account_script (a : Acct) (k : Nat) (s : State) : (account a k s).script = s.script := by cases a <;> rfl
@[simp] theorem account_draws (a : Acct) (k : Nat) (s : State) : (account a k s).draws = s.draws := by cases a <;> rfl
@[simp] theorem account_direct_cycSum (k : Nat) (s : State) : (account .direct k s).cycSum = s.cycSum + k := rfl
@[simp] theorem account_direct_cycCarry (k : Nat) (s : State) : (account .direct k s).cycCarry = s.cycCarry := rfl
@[simp] theorem account_deferred_cycSum (k : Nat) (s : State) :
    (account .deferred k s).cycSum = s.cycSum + s.cycCarry := rfl
@[simp] theorem account_deferred_cycCarry (k : Nat) (s : State) : (account .deferred k s).cycCarry = k := rfl

/-! ### retire (R97 to R99, R18) -/

@[simp] theorem retire_texStat (op : Byte) (area : Nat) (s : State) : (retire op area s).texStat = s.texStat := by simp [retire]
@[simp] theorem retire_clipX1 (op : Byte) (area : Nat) (s : State) : (retire op area s).clipX1 = s.clipX1 := by simp [retire]
@[simp] theorem retire_clipY1 (op : Byte) (area : Nat) (s : State) : (retire op area s).clipY1 = s.clipY1 := by simp [retire]
@[simp] theorem retire_clipX2 (op : Byte) (area : Nat) (s : State) : (retire op area s).clipX2 = s.clipX2 := by simp [retire]
@[simp] theorem retire_clipY2 (op : Byte) (area : Nat) (s : State) : (retire op area s).clipY2 = s.clipY2 := by simp [retire]
@[simp] theorem retire_ofsX (op : Byte) (area : Nat) (s : State) : (retire op area s).ofsX = s.ofsX := by simp [retire]
@[simp] theorem retire_ofsY (op : Byte) (area : Nat) (s : State) : (retire op area s).ofsY = s.ofsY := by simp [retire]
@[simp] theorem retire_maskSet (op : Byte) (area : Nat) (s : State) : (retire op area s).maskSet = s.maskSet := by simp [retire]
@[simp] theorem retire_maskChk (op : Byte) (area : Nat) (s : State) : (retire op area s).maskChk = s.maskChk := by simp [retire]
@[simp] theorem retire_status (op : Byte) (area : Nat) (s : State) : (retire op area s).status = s.status := by simp [retire]
@[simp] theorem retire_pkt (op : Byte) (area : Nat) (s : State) : (retire op area s).pkt = Config.freePacket s.draws := by simp [retire]
@[simp] theorem retire_pos (op : Byte) (area : Nat) (s : State) : (retire op area s).pos = s.pos + 1 + len op := by simp [retire]
@[simp] theorem retire_lastOp (op : Byte) (area : Nat) (s : State) : (retire op area s).lastOp = .opcode op := by simp [retire]
@[simp] theorem retire_cycCarry (op : Byte) (area : Nat) (s : State) : (retire op area s).cycCarry = (account Config.acct (Config.cost op area) s).cycCarry := rfl
@[simp] theorem retire_cycSum (op : Byte) (area : Nat) (s : State) : (retire op area s).cycSum = (account Config.acct (Config.cost op area) s).cycSum := rfl
@[simp] theorem retire_buf (op : Byte) (area : Nat) (s : State) : (retire op area s).buf = s.buf := by simp [retire]
@[simp] theorem retire_out (op : Byte) (area : Nat) (s : State) : (retire op area s).out = s.out := by simp [retire]
@[simp] theorem retire_batchOpen (op : Byte) (area : Nat) (s : State) : (retire op area s).batchOpen = s.batchOpen := by simp [retire]
@[simp] theorem retire_phase (op : Byte) (area : Nat) (s : State) : (retire op area s).phase = s.phase := by simp [retire]
@[simp] theorem retire_script (op : Byte) (area : Nat) (s : State) : (retire op area s).script = s.script := by simp [retire]
@[simp] theorem retire_draws (op : Byte) (area : Nat) (s : State) : (retire op area s).draws = s.draws + 1 := by simp [retire]

/-! ### STATUS and its fields (R16) -/

@[simp] theorem statusTex_statusWord (h : BitVec 19) (c m : Bool) (t : BitVec 11) :
    statusTex (statusWord h c m t) = t := by
  apply BitVec.eq_of_getLsbD_eq
  intro k hk
  simp only [statusTex, statusWord, BitVec.getLsbD_extractLsb', BitVec.getLsbD_append]
  simp [hk]
@[simp] theorem statusMset_statusWord (h : BitVec 19) (c m : Bool) (t : BitVec 11) :
    statusMset (statusWord h c m t) = m := by
  simp only [statusMset, statusWord, BitVec.getLsbD_append]
  simp
@[simp] theorem statusMchk_statusWord (h : BitVec 19) (c m : Bool) (t : BitVec 11) :
    statusMchk (statusWord h c m t) = c := by
  simp only [statusMchk, statusWord, BitVec.getLsbD_append]
  simp
@[simp] theorem statusHost_statusWord (h : BitVec 19) (c m : Bool) (t : BitVec 11) :
    statusHost (statusWord h c m t) = h := by
  apply BitVec.eq_of_getLsbD_eq
  intro k hk
  simp only [statusHost, statusWord, BitVec.getLsbD_extractLsb', BitVec.getLsbD_append]
  simp only [show ¬ 13 + k < 11 by omega, show ¬ 13 + k - 11 < 1 by omega, show ¬ 13 + k - 11 - 1 < 1 by omega, hk,
    decide_true, Bool.true_and, if_false]
  congr 1
  omega

/-! ### The views -/

/-- Equal registers make equal views. -/
theorem persistent_eq {s t : State} (h1 : t.texStat = s.texStat) (h2 : t.clipX1 = s.clipX1)
    (h3 : t.clipY1 = s.clipY1) (h4 : t.clipX2 = s.clipX2) (h5 : t.clipY2 = s.clipY2) (h6 : t.ofsX = s.ofsX)
    (h7 : t.ofsY = s.ofsY) (h8 : t.maskSet = s.maskSet) (h9 : t.maskChk = s.maskChk) :
    t.persistent = s.persistent := by
  simp [State.persistent, *]

@[simp] theorem retire_persistent (op : Byte) (area : Nat) (s : State) :
    (retire op area s).persistent = s.persistent := by simp [State.persistent]
@[simp] theorem packetCopy_persistent (operands : Nat) (s : State) :
    (packetCopy operands s).persistent = s.persistent := rfl
@[simp] theorem exitInvocation_persistent (s : State) : (exitInvocation s).persistent = s.persistent := rfl
@[simp] theorem stopIncomplete_persistent (s : State) : (stopIncomplete s).persistent = s.persistent := rfl
@[simp] theorem invoke_persistent (words : List Word) (carry sum : Int) (s : State) :
    (invoke words carry sum s).persistent = s.persistent := rfl

/-! ### resetWith -/

@[simp] theorem resetWith_persistent (r : ResetState) : (State.resetWith r).persistent = r.registers := rfl
@[simp] theorem resetWith_texStat (r : ResetState) : (State.resetWith r).texStat = r.registers.texStat := rfl
@[simp] theorem resetWith_maskSet (r : ResetState) : (State.resetWith r).maskSet = r.registers.maskSet := rfl
@[simp] theorem resetWith_maskChk (r : ResetState) : (State.resetWith r).maskChk = r.registers.maskChk := rfl
@[simp] theorem resetWith_status (r : ResetState) : (State.resetWith r).status = 0#19 ++ r.statusLow := rfl
@[simp] theorem resetWith_pos (r : ResetState) : (State.resetWith r).pos = 0 := rfl
@[simp] theorem resetWith_buf (r : ResetState) : (State.resetWith r).buf = [] := rfl
@[simp] theorem resetWith_out (r : ResetState) : (State.resetWith r).out = [] := rfl
@[simp] theorem resetWith_batchOpen (r : ResetState) : (State.resetWith r).batchOpen = false := rfl
@[simp] theorem resetWith_phase (r : ResetState) : (State.resetWith r).phase = .idle := rfl
@[simp] theorem resetWith_script (r : ResetState) : (State.resetWith r).script = [] := rfl

/-- Retiring a command consumes it, whatever the scheme (R98, R99). -/
theorem retire_consumed (op : Byte) (area : Nat) (s : State) : Consumed op area s (retire op area s) where
  pos := retire_pos op area s
  lastOp := retire_lastOp op area s
  cycles := by unfold Accounted; cases h : Config.acct <;> simp [h]
  around := ⟨by simp, by simp, by simp, by simp, by simp⟩

end Sys2Proof.Machine
end

