-- ==== Sys2Proof/Laws/Exec.lean ====
section
/-! SUPPORT. Everything an instruction can do, said once (R97): its primitive or its register writes, then the
retirement; or the batch fault, and nothing else. -/

namespace Sys2Proof.Machine

/-- The primitive of a drawn command: its shading and its coloured vertices. -/
def drawnAs : Instr → Option (Shading × List (Vertex × Rgb))
  | .polyF3 c v0 v1 v2 => some (.flat, [(v0, rgb c), (v1, rgb c), (v2, rgb c)])
  | .polyF4 c v0 v1 v2 v3 => some (.flat, [(v0, rgb c), (v1, rgb c), (v2, rgb c), (v3, rgb c)])
  | .polyG3 c0 v0 c1 v1 c2 v2 => some (.gouraud, [(v0, rgb c0), (v1, rgb c1), (v2, rgb c2)])
  | .polyG4 c0 v0 c1 v1 c2 v2 c3 v3 =>
    some (.gouraud, [(v0, rgb c0), (v1, rgb c1), (v2, rgb c2), (v3, rgb c3)])
  | .lineF2 c v0 v1 => some (.flat, lineQuad v0 (rgb c) v1 (rgb c))
  | .lineG2 c0 v0 c1 v1 => some (.gouraud, lineQuad v0 (rgb c0) v1 (rgb c1))
  | .rectF c o w h =>
    some (.flat, [(o, rgb c), (Vertex.plus o w 0, rgb c), (Vertex.plus o 0 h, rgb c), (Vertex.plus o w h, rgb c)])
  | _ => none

/-- The registers a state-setting command writes. -/
def registerWrites (i : Instr) (s : State) : State :=
  match i with
  | .tpage tp => { s with texStat := BitVec.ofNat 11 tp }
  | .clipTl x y => { s with clipX1 := BitVec.ofNat 10 x, clipY1 := BitVec.ofNat 9 y }
  | .clipBr x y => { s with clipX2 := BitVec.ofNat 10 x, clipY2 := BitVec.ofNat 9 y }
  | .drawofs dx dy => { s with ofsX := BitVec.ofInt 11 dx, ofsY := BitVec.ofInt 11 dy }
  | .maskbits set chk => writeMaskFlags set chk s
  | _ => s

/-- The records a command appends to `OUT`. -/
def emitted (i : Instr) (s : State) : List Record :=
  match drawnAs i with
  | some (shading, vertices) => primitive s shading vertices
  | none => []

/-- The area a command hands to the accounting (R97). -/
def areaOf : Instr → Nat
  | .fill _ _ w h => fillArea w h
  | _ => 0

/-- The operation of a command before its retirement. -/
def operation (i : Instr) (s : State) : State :=
  { registerWrites i s with out := s.out ++ emitted i s }

/-- A drawn command emits with a batch open and faults without one (R158). -/
theorem emitPrimitive_eq (op : Byte) (shading : Shading) (vertices : List (Vertex × Rgb)) (s : State) :
    emitPrimitive op shading vertices s =
      if true && !s.batchOpen then .fault .emitOutsideBatch
      else .next (retire op 0 { s with out := s.out ++ primitive s shading vertices }) := by
  unfold emitPrimitive
  cases s.batchOpen <;> rfl

/-- A command that emits nothing retires on whatever it left (R158). -/
theorem retire_eq (op : Byte) (area : Nat) (s t : State) (h : t = s) :
    (.next (retire op area s) : Result) =
      if false && !s.batchOpen then .fault .emitOutsideBatch else .next (retire op area t) := by
  rw [h]
  rfl

/-- Everything an instruction can do (R97, R158). -/
theorem exec_eq (i : Instr) (s : State) :
    exec i s =
      if (drawnAs i).isSome && !s.batchOpen then .fault .emitOutsideBatch
      else .next (retire (opcodeOf i) (areaOf i) (operation i s)) := by
  have hout : { s with out := s.out ++ [] } = s := by simp
  cases i <;>
    first
    | exact retire_eq _ _ s _ hout
    | exact emitPrimitive_eq _ _ _ s
    | (simp only [operation, emitted, drawnAs, List.append_nil]; rfl)

end Sys2Proof.Machine
end

