-- ==== Sys2Proof/Laws/Step.lean ====
section
/-! SUPPORT. What a step can do, said once: inversion lemmas of exec, the fetch, the host's actions and the step. -/

namespace Sys2Proof.Machine

/-! ### exec -/

/-- A drawn opcode is one that has a primitive. -/
theorem isDrawn_eq (i : Instr) : isDrawn i = (drawnAs i).isSome := by cases i <;> rfl

/-- When an instruction completes, this is the state it leaves (R97 to R99). -/
theorem exec_next {i : Instr} {s t : State} (h : exec i s = .next t) :
    t = retire (opcodeOf i) (areaOf i) (operation i s) ∧ (isDrawn i = true → s.batchOpen = true) := by
  rw [exec_eq, ← isDrawn_eq] at h
  split at h
  · cases h
  · rename_i hb
    cases h
    exact ⟨rfl, fun hd => by simpa [hd] using hb⟩

/-- An instruction completes unless it is drawn outside a batch (R158, R203). -/
theorem exec_completes {i : Instr} {s : State} (h : isDrawn i = true → s.batchOpen = true) :
    exec i s = .next (retire (opcodeOf i) (areaOf i) (operation i s)) := by
  rw [exec_eq, ← isDrawn_eq, if_neg]
  cases hd : isDrawn i <;> simp_all

/-- A drawn command outside a batch faults (R158, R204). -/
theorem exec_faults {i : Instr} {s : State} (hd : isDrawn i = true) (hb : s.batchOpen = false) :
    exec i s = .fault .emitOutsideBatch := by
  rw [exec_eq, ← isDrawn_eq, if_pos]
  simp [hd, hb]

/-! ### operation: what stands before the retirement -/

/-- The register writes touch the nine registers only (R17). -/
theorem registerWrites_around (i : Instr) (s : State) :
    SameSurroundings s (registerWrites i s) ∧ (registerWrites i s).pos = s.pos ∧
      (registerWrites i s).cycSum = s.cycSum ∧ (registerWrites i s).cycCarry = s.cycCarry ∧
      (registerWrites i s).draws = s.draws ∧ (registerWrites i s).pkt = s.pkt := by
  unfold registerWrites
  split <;> exact ⟨⟨rfl, rfl, rfl, rfl, rfl⟩, rfl, rfl, rfl, rfl, rfl⟩

@[simp] theorem operation_out (i : Instr) (s : State) : (operation i s).out = s.out ++ emitted i s := rfl
@[simp] theorem operation_pos (i : Instr) (s : State) : (operation i s).pos = s.pos :=
  (registerWrites_around i s).2.1
@[simp] theorem operation_cycSum (i : Instr) (s : State) : (operation i s).cycSum = s.cycSum :=
  (registerWrites_around i s).2.2.1
@[simp] theorem operation_cycCarry (i : Instr) (s : State) : (operation i s).cycCarry = s.cycCarry :=
  (registerWrites_around i s).2.2.2.1
@[simp] theorem operation_draws (i : Instr) (s : State) : (operation i s).draws = s.draws :=
  (registerWrites_around i s).2.2.2.2.1
@[simp] theorem operation_status (i : Instr) (s : State) : (operation i s).status = s.status :=
  (registerWrites_around i s).1.status
@[simp] theorem operation_buf (i : Instr) (s : State) : (operation i s).buf = s.buf :=
  (registerWrites_around i s).1.buf
@[simp] theorem operation_batchOpen (i : Instr) (s : State) : (operation i s).batchOpen = s.batchOpen :=
  (registerWrites_around i s).1.batchOpen
@[simp] theorem operation_phase (i : Instr) (s : State) : (operation i s).phase = s.phase :=
  (registerWrites_around i s).1.phase
@[simp] theorem operation_script (i : Instr) (s : State) : (operation i s).script = s.script :=
  (registerWrites_around i s).1.script

/-! ### The fetch -/

/-- A whole command is found exactly when all its words are there (R92 to R95). -/
theorem fetch_command {s : State} {n : Nat} (h : fetch s = .command n) :
    ∃ w0, s.buf[s.pos]? = some w0 ∧ n = len (opcodeField w0) ∧ s.pos + 1 + n ≤ s.buf.length := by
  unfold fetch at h
  split at h
  · cases h
  · split at h
    · cases h
    · rename_i w0 hw
      split at h
      · cases h
      · cases h
        obtain ⟨hlt, -⟩ := List.getElem?_eq_some_iff.mp hw
        exact ⟨w0, hw, rfl, by omega⟩

/-- A partial command is found exactly when some of its words are missing (R95). -/
theorem fetch_incomplete {s : State} (h : fetch s = .incomplete) :
    ∃ w0, s.buf[s.pos]? = some w0 ∧ s.buf.length - s.pos < 1 + len (opcodeField w0) := by
  unfold fetch at h
  split at h
  · cases h
  · split at h
    · cases h
    · rename_i w0 hw
      split at h
      · exact ⟨w0, hw, ‹_›⟩
      · cases h

/-- The end of the buffer is found exactly at `POS = N` (R92). -/
theorem fetch_bufferEnd {s : State} : fetch s = .bufferEnd ↔ s.pos = s.buf.length := by
  unfold fetch
  split
  · simp [*]
  · split
    · simp [*]
    · split <;> simp [*]

/-- With `POS ≤ N` there is always a word or the end (R19). -/
theorem fetch_ne_noWord {s : State} (h : s.pos ≤ s.buf.length) : fetch s ≠ .noWord := by
  unfold fetch
  split
  · simp
  · split
    · rename_i hne hn
      rw [List.getElem?_eq_none_iff] at hn
      omega
    · split <;> simp

/-! ### The step -/

/-- A step within an invocation (R104). -/
theorem step_of_running {s : State} (h : s.phase = .running) : step s = stepCommand s := by simp only [step, h]

/-- A step between invocations (R104). -/
theorem step_of_idle {s : State} (h : s.phase = .idle) : step s = stepHost s := by simp only [step, h]

/-- A step between invocations takes the host's next action. -/
theorem step_of_script {s : State} {a : HostAction} {rest : List HostAction} (h : s.phase = .idle)
    (hs : s.script = a :: rest) : step s = hostAct a { s with script := rest } := by
  rw [step_of_idle h, stepHost, hs]

/-- What a step within an invocation can do (R92 to R100). -/
theorem step_running_cases {s t : State} (hp : s.phase = .running) (h : step s = .next t) :
    (fetch s = .bufferEnd ∧ t = exitInvocation s) ∨ (fetch s = .incomplete ∧ t = stopIncomplete s) ∨
      ∃ n, fetch s = .command n ∧
        exec (decodePacket (packetCopy n s).pkt) (packetCopy n s) = .next t := by
  simp only [step, hp, stepCommand] at h
  cases hf : fetch s with
  | bufferEnd => rw [hf] at h; cases h; exact .inl ⟨rfl, rfl⟩
  | noWord => rw [hf] at h; cases h
  | incomplete => rw [hf] at h; cases h; exact .inr (.inl ⟨rfl, rfl⟩)
  | command n => rw [hf] at h; exact .inr (.inr ⟨n, rfl, h⟩)

/-- What a step between invocations can do (R210, R212). -/
theorem step_idle_cases {s t : State} (hp : s.phase = .idle) (h : step s = .next t) :
    (s.script = [] ∧ t = s) ∨ ∃ a rest, s.script = a :: rest ∧ hostAct a { s with script := rest } = .next t := by
  have h' : stepHost s = .next t := by rw [step, hp] at h; exact h
  cases hs : s.script with
  | nil => rw [stepHost, hs] at h'; cases h'; exact .inl ⟨rfl, rfl⟩
  | cons a rest => rw [stepHost, hs] at h'; exact .inr ⟨a, rest, rfl, h'⟩

/-- What an action of the host leaves (R210). -/
theorem hostAct_cases {a : HostAction} {s t : State} (h : hostAct a s = .next t) :
    (a = .beginBatch ∧ s.batchOpen = false ∧ t = { s with batchOpen := true }) ∨
    (a = .endBatch ∧ s.batchOpen = true ∧ t = { s with batchOpen := false }) ∨
    (∃ words carry sum, a = .invoke words carry sum ∧ t = invoke words carry sum s) ∨
    (∃ more, a = .resume more ∧ t = invoke (s.unconsumed ++ more) s.cycCarry s.cycSum s) ∨
    (∃ bits, a = .writeStatusHost bits ∧
      t = { s with status := statusWord bits (statusMchk s.status) (statusMset s.status) (statusTex s.status) }) := by
  cases a with
  | beginBatch => cases hb : s.batchOpen <;> simp [hostAct, hb] at h ⊢; exact h.symm
  | endBatch => cases hb : s.batchOpen <;> simp [hostAct, hb] at h ⊢; exact h.symm
  | invoke words carry sum => cases h; simp
  | resume more => cases h; simp [resume]
  | writeStatusHost bits => cases h; simp

end Sys2Proof.Machine
end

