-- ==== Sys2Proof/Tests/Slice0.lean ====
section
/-! SUPPORT. Small tests, their expected results from spec/95_test_vectors.md and the rules' worked examples, and one
witness per obligation with hypotheses, at a boundary where a clause has one. -/

namespace Sys2Proof.Machine.Tests

/-! ### Small states -/

/-- Reset, a batch open, and an invocation under way on these words. -/
def running (ws : List Word) : State :=
  { State.reset with phase := .running, batchOpen := true, buf := ws }

/-- Reset, between invocations, with this script. -/
def waiting (script : List HostAction) : State := { State.reset with script := script }

/-- The state a result leaves, reset where it leaves none. -/
def after : Result → State
  | .next t => t
  | .fault _ => State.reset
  | .refused _ => State.reset

/-- The words of the spec's POLY_F3 example (PG1). -/
def triangle : List Word := [0x20112233#32, 0x0014000A#32, 0x0014006E#32, 0x0078000A#32]

/-! ### WellFormed: for each check an ill-formed term, refused -/

theorem test_wellFormed_fill_x : (Instr.fill 65536 0 0 0).wellFormed = false := by decide
theorem test_wellFormed_fill_y : (Instr.fill 0 65536 0 0).wellFormed = false := by decide
theorem test_wellFormed_fill_w : (Instr.fill 0 0 65536 0).wellFormed = false := by decide
theorem test_wellFormed_fill_h : (Instr.fill 0 0 0 65536).wellFormed = false := by decide
theorem test_wellFormed_polyF3 : (Instr.polyF3 0 ⟨0, 0⟩ ⟨32768, 0⟩ ⟨0, 0⟩).wellFormed = false := by decide
theorem test_wellFormed_polyF4 : (Instr.polyF4 0 ⟨0, 0⟩ ⟨0, 0⟩ ⟨0, 0⟩ ⟨0, -32769⟩).wellFormed = false := by decide
theorem test_wellFormed_polyG3 : (Instr.polyG3 0 ⟨-32769, 0⟩ 0 ⟨0, 0⟩ 0 ⟨0, 0⟩).wellFormed = false := by decide
theorem test_wellFormed_polyG4 : (Instr.polyG4 0 ⟨0, 0⟩ 0 ⟨0, 0⟩ 0 ⟨0, 32768⟩ 0 ⟨0, 0⟩).wellFormed = false := by decide
theorem test_wellFormed_lineF2 : (Instr.lineF2 0 ⟨0, 0⟩ ⟨0, 32768⟩).wellFormed = false := by decide
theorem test_wellFormed_lineG2 : (Instr.lineG2 0 ⟨32768, 0⟩ 0 ⟨0, 0⟩).wellFormed = false := by decide
theorem test_wellFormed_rectF_origin : (Instr.rectF 0 ⟨0, 32768⟩ 1 1).wellFormed = false := by decide
theorem test_wellFormed_rectF_size : (Instr.rectF 0 ⟨0, 0⟩ 1 65536).wellFormed = false := by decide
theorem test_wellFormed_tpage : (Instr.tpage 2048).wellFormed = false := by decide
theorem test_wellFormed_clipTl : (Instr.clipTl 1024 0).wellFormed = false := by decide
theorem test_wellFormed_clipBr : (Instr.clipBr 0 512).wellFormed = false := by decide
theorem test_wellFormed_drawofs_low : (Instr.drawofs (-1025) 0).wellFormed = false := by decide
theorem test_wellFormed_drawofs_high : (Instr.drawofs 0 1024).wellFormed = false := by decide

/-! ### Decode: words written out in the spec -/

/-- T4: the offset pairs the source asks for. -/
theorem test_decode_drawofs_bounds :
    decode [0xE51FFC00#32] = .ok (.drawofs (-1024) 1023, []) ∧
      decode [0xE52003FF#32] = .ok (.drawofs 1023 (-1024), []) ∧
      decode [0xE53FFFFF#32] = .ok (.drawofs (-1) (-1), []) ∧
      decode [0xE5C00000#32] = .ok (.drawofs 0 0, []) := by decide

/-- SS2, SS4, SS6, SS7, SS8, SS11: the other state-setting words. -/
theorem test_decode_state_setting :
    decode [0xE1FFFFFF#32] = .ok (.tpage 0x7FF, []) ∧ decode [0xE2ABCDEF#32] = .ok (.twin, []) ∧
      decode [0xE3FFFFFF#32] = .ok (.clipTl 1023 511, []) ∧ decode [0xE3080000#32] = .ok (.clipTl 0 0, []) ∧
      decode [0xE403BD3F#32] = .ok (.clipBr 319 239, []) ∧
      decode [0xE6FFFFFE#32] = .ok (.maskbits false true, []) := by decide

/-- PG1, PG3, PG4, PG5: the polygons. -/
theorem test_decode_polygons :
    decode triangle = .ok (.polyF3 0x112233#24 ⟨10, 20⟩ ⟨110, 20⟩ ⟨10, 120⟩, []) ∧
      decode [0x280000FF#32, 0#32, 0x00000064#32, 0x00320000#32, 0x00320064#32] =
        .ok (.polyF4 0x0000FF#24 ⟨0, 0⟩ ⟨100, 0⟩ ⟨0, 50⟩ ⟨100, 50⟩, []) ∧
      decode [0x300000FF#32, 0#32, 0xAA00FF00#32, 0x00000040#32, 0x00FF0000#32, 0x00400000#32] =
        .ok (.polyG3 0x0000FF#24 ⟨0, 0⟩ 0x00FF00#24 ⟨64, 0⟩ 0xFF0000#24 ⟨0, 64⟩, []) ∧
      decode [0x38FFFFFF#32, 0xFFFFFFFF#32, 0#32, 0xFFFF0001#32, 0x00808080#32, 0x0001FFFF#32, 0x00010203#32,
        0x00010001#32] =
        .ok (.polyG4 0xFFFFFF#24 ⟨-1, -1⟩ 0#24 ⟨1, -1⟩ 0x808080#24 ⟨-1, 1⟩ 0x010203#24 ⟨1, 1⟩, []) := by decide

/-- LN1, RC3, FL4: a line, a rectangle with the extreme size, a fill. -/
theorem test_decode_line_rect_fill :
    decode [0x40FFFFFF#32, 0#32, 0x0000000A#32] = .ok (.lineF2 0xFFFFFF#24 ⟨0, 0⟩ ⟨10, 0⟩, []) ∧
      decode [0x60FFFFFF#32, 0x00007FFF#32, 0x0001FFFF#32] = .ok (.rectF 0xFFFFFF#24 ⟨32767, 0⟩ 65535 1, []) ∧
      decode [0x02000000#32, 0#32, 0x0002FFFF#32] = .ok (.fill 0 0 65535 2, []) := by decide

/-- PG7, LN10, RC5, XF1, XF4, XF3, NU1: one acknowledged opcode of each range, with its length. -/
theorem test_decode_acknowledged :
    decode [0x21000000#32, 0#32, 0#32, 0#32] = .ok (.polyAck21, []) ∧
      decode [0x48FFFFFF#32, 0#32, 0#32, 0#32] = .ok (.lineAck48, []) ∧
      decode [0x68FFFFFF#32, 0x00100010#32] = .ok (.rectAck68, []) ∧
      decode [0x80000000#32, 0#32, 0x00100010#32, 0x00080008#32, 7#32] = .ok (.xferVv80, [7#32]) ∧
      decode [0xBFFFFFFF#32, 0xFFFFFFFF#32, 0xFFFFFFFF#32] = .ok (.xferCvBF, []) ∧
      decode [0xC0000000#32, 0#32, 0x00010001#32] = .ok (.xferVcC0, []) ∧
      decode [0xE7123456#32] = .ok (.nopUnkE7, []) := by decide

/-! Every acknowledged opcode: the table's word and its number of operand words, which are skipped whatever they hold. -/

/-- The row's word, followed by that many operand words of ones, decodes to the instruction. -/
def rowDecodes (row : Word × Nat × Instr) : Bool :=
  decide (decode (row.1 :: List.replicate row.2.1 0xFFFFFFFF#32) = .ok (row.2.2, []))

/-- NOP_UNK 0x00, 0x01, 0x03 to 0x1F (R114). -/
theorem test_decode_unknown_low :
    [(0x00000000#32, 0, .nopUnk00), (0x01000000#32, 0, .nopUnk01), (0x03000000#32, 0, .nopUnk03),
      (0x04000000#32, 0, .nopUnk04), (0x05000000#32, 0, .nopUnk05), (0x06000000#32, 0, .nopUnk06),
      (0x07000000#32, 0, .nopUnk07), (0x08000000#32, 0, .nopUnk08), (0x09000000#32, 0, .nopUnk09),
      (0x0A000000#32, 0, .nopUnk0A), (0x0B000000#32, 0, .nopUnk0B), (0x0C000000#32, 0, .nopUnk0C),
      (0x0D000000#32, 0, .nopUnk0D), (0x0E000000#32, 0, .nopUnk0E), (0x0F000000#32, 0, .nopUnk0F),
      (0x10000000#32, 0, .nopUnk10), (0x11000000#32, 0, .nopUnk11), (0x12000000#32, 0, .nopUnk12),
      (0x13000000#32, 0, .nopUnk13), (0x14000000#32, 0, .nopUnk14), (0x15000000#32, 0, .nopUnk15),
      (0x16000000#32, 0, .nopUnk16), (0x17000000#32, 0, .nopUnk17), (0x18000000#32, 0, .nopUnk18),
      (0x19000000#32, 0, .nopUnk19), (0x1A000000#32, 0, .nopUnk1A), (0x1B000000#32, 0, .nopUnk1B),
      (0x1C000000#32, 0, .nopUnk1C), (0x1D000000#32, 0, .nopUnk1D), (0x1E000000#32, 0, .nopUnk1E),
      (0x1F000000#32, 0, .nopUnk1F)].all rowDecodes = true := by decide

/-- POLY_ACK (R174). -/
theorem test_decode_polyAck :
    [(0x21000000#32, 3, .polyAck21), (0x22000000#32, 3, .polyAck22), (0x23000000#32, 3, .polyAck23),
      (0x24000000#32, 6, .polyAck24), (0x25000000#32, 6, .polyAck25), (0x26000000#32, 6, .polyAck26),
      (0x27000000#32, 6, .polyAck27), (0x29000000#32, 4, .polyAck29), (0x2A000000#32, 4, .polyAck2A),
      (0x2B000000#32, 4, .polyAck2B), (0x2C000000#32, 8, .polyAck2C), (0x2D000000#32, 8, .polyAck2D),
      (0x2E000000#32, 8, .polyAck2E), (0x2F000000#32, 8, .polyAck2F), (0x31000000#32, 5, .polyAck31),
      (0x32000000#32, 5, .polyAck32), (0x33000000#32, 5, .polyAck33), (0x34000000#32, 8, .polyAck34),
      (0x35000000#32, 8, .polyAck35), (0x36000000#32, 8, .polyAck36), (0x37000000#32, 8, .polyAck37),
      (0x39000000#32, 7, .polyAck39), (0x3A000000#32, 7, .polyAck3A), (0x3B000000#32, 7, .polyAck3B),
      (0x3C000000#32, 11, .polyAck3C), (0x3D000000#32, 11, .polyAck3D), (0x3E000000#32, 11, .polyAck3E),
      (0x3F000000#32, 11, .polyAck3F)].all rowDecodes = true := by decide

/-- LINE_ACK (R183). -/
theorem test_decode_lineAck :
    [(0x41000000#32, 2, .lineAck41), (0x42000000#32, 2, .lineAck42), (0x43000000#32, 2, .lineAck43),
      (0x44000000#32, 2, .lineAck44), (0x45000000#32, 2, .lineAck45), (0x46000000#32, 2, .lineAck46),
      (0x47000000#32, 2, .lineAck47), (0x48000000#32, 3, .lineAck48), (0x49000000#32, 3, .lineAck49),
      (0x4A000000#32, 3, .lineAck4A), (0x4B000000#32, 3, .lineAck4B), (0x4C000000#32, 3, .lineAck4C),
      (0x4D000000#32, 3, .lineAck4D), (0x4E000000#32, 3, .lineAck4E), (0x4F000000#32, 3, .lineAck4F),
      (0x51000000#32, 3, .lineAck51), (0x52000000#32, 3, .lineAck52), (0x53000000#32, 3, .lineAck53),
      (0x54000000#32, 3, .lineAck54), (0x55000000#32, 3, .lineAck55), (0x56000000#32, 3, .lineAck56),
      (0x57000000#32, 3, .lineAck57), (0x58000000#32, 4, .lineAck58), (0x59000000#32, 4, .lineAck59),
      (0x5A000000#32, 4, .lineAck5A), (0x5B000000#32, 4, .lineAck5B), (0x5C000000#32, 4, .lineAck5C),
      (0x5D000000#32, 4, .lineAck5D), (0x5E000000#32, 4, .lineAck5E), (0x5F000000#32, 4, .lineAck5F)].all rowDecodes = true := by decide

/-- RECT_ACK (R191). -/
theorem test_decode_rectAck :
    [(0x61000000#32, 2, .rectAck61), (0x62000000#32, 2, .rectAck62), (0x63000000#32, 2, .rectAck63),
      (0x64000000#32, 3, .rectAck64), (0x65000000#32, 3, .rectAck65), (0x66000000#32, 3, .rectAck66),
      (0x67000000#32, 3, .rectAck67), (0x68000000#32, 1, .rectAck68), (0x69000000#32, 1, .rectAck69),
      (0x6A000000#32, 1, .rectAck6A), (0x6B000000#32, 1, .rectAck6B), (0x6C000000#32, 2, .rectAck6C),
      (0x6D000000#32, 2, .rectAck6D), (0x6E000000#32, 2, .rectAck6E), (0x6F000000#32, 2, .rectAck6F),
      (0x70000000#32, 1, .rectAck70), (0x71000000#32, 1, .rectAck71), (0x72000000#32, 1, .rectAck72),
      (0x73000000#32, 1, .rectAck73), (0x74000000#32, 2, .rectAck74), (0x75000000#32, 2, .rectAck75),
      (0x76000000#32, 2, .rectAck76), (0x77000000#32, 2, .rectAck77), (0x78000000#32, 1, .rectAck78),
      (0x79000000#32, 1, .rectAck79), (0x7A000000#32, 1, .rectAck7A), (0x7B000000#32, 1, .rectAck7B),
      (0x7C000000#32, 2, .rectAck7C), (0x7D000000#32, 2, .rectAck7D), (0x7E000000#32, 2, .rectAck7E),
      (0x7F000000#32, 2, .rectAck7F)].all rowDecodes = true := by decide

/-- XFER_VV (R110). -/
theorem test_decode_xferVv :
    [(0x80000000#32, 3, .xferVv80), (0x81000000#32, 3, .xferVv81), (0x82000000#32, 3, .xferVv82),
      (0x83000000#32, 3, .xferVv83), (0x84000000#32, 3, .xferVv84), (0x85000000#32, 3, .xferVv85),
      (0x86000000#32, 3, .xferVv86), (0x87000000#32, 3, .xferVv87), (0x88000000#32, 3, .xferVv88),
      (0x89000000#32, 3, .xferVv89), (0x8A000000#32, 3, .xferVv8A), (0x8B000000#32, 3, .xferVv8B),
      (0x8C000000#32, 3, .xferVv8C), (0x8D000000#32, 3, .xferVv8D), (0x8E000000#32, 3, .xferVv8E),
      (0x8F000000#32, 3, .xferVv8F), (0x90000000#32, 3, .xferVv90), (0x91000000#32, 3, .xferVv91),
      (0x92000000#32, 3, .xferVv92), (0x93000000#32, 3, .xferVv93), (0x94000000#32, 3, .xferVv94),
      (0x95000000#32, 3, .xferVv95), (0x96000000#32, 3, .xferVv96), (0x97000000#32, 3, .xferVv97),
      (0x98000000#32, 3, .xferVv98), (0x99000000#32, 3, .xferVv99), (0x9A000000#32, 3, .xferVv9A),
      (0x9B000000#32, 3, .xferVv9B), (0x9C000000#32, 3, .xferVv9C), (0x9D000000#32, 3, .xferVv9D),
      (0x9E000000#32, 3, .xferVv9E), (0x9F000000#32, 3, .xferVv9F)].all rowDecodes = true := by decide

/-- XFER_CV (R111). -/
theorem test_decode_xferCv :
    [(0xA0000000#32, 2, .xferCvA0), (0xA1000000#32, 2, .xferCvA1), (0xA2000000#32, 2, .xferCvA2),
      (0xA3000000#32, 2, .xferCvA3), (0xA4000000#32, 2, .xferCvA4), (0xA5000000#32, 2, .xferCvA5),
      (0xA6000000#32, 2, .xferCvA6), (0xA7000000#32, 2, .xferCvA7), (0xA8000000#32, 2, .xferCvA8),
      (0xA9000000#32, 2, .xferCvA9), (0xAA000000#32, 2, .xferCvAA), (0xAB000000#32, 2, .xferCvAB),
      (0xAC000000#32, 2, .xferCvAC), (0xAD000000#32, 2, .xferCvAD), (0xAE000000#32, 2, .xferCvAE),
      (0xAF000000#32, 2, .xferCvAF), (0xB0000000#32, 2, .xferCvB0), (0xB1000000#32, 2, .xferCvB1),
      (0xB2000000#32, 2, .xferCvB2), (0xB3000000#32, 2, .xferCvB3), (0xB4000000#32, 2, .xferCvB4),
      (0xB5000000#32, 2, .xferCvB5), (0xB6000000#32, 2, .xferCvB6), (0xB7000000#32, 2, .xferCvB7),
      (0xB8000000#32, 2, .xferCvB8), (0xB9000000#32, 2, .xferCvB9), (0xBA000000#32, 2, .xferCvBA),
      (0xBB000000#32, 2, .xferCvBB), (0xBC000000#32, 2, .xferCvBC), (0xBD000000#32, 2, .xferCvBD),
      (0xBE000000#32, 2, .xferCvBE), (0xBF000000#32, 2, .xferCvBF)].all rowDecodes = true := by decide

/-- XFER_VC (R112). -/
theorem test_decode_xferVc :
    [(0xC0000000#32, 2, .xferVcC0), (0xC1000000#32, 2, .xferVcC1), (0xC2000000#32, 2, .xferVcC2),
      (0xC3000000#32, 2, .xferVcC3), (0xC4000000#32, 2, .xferVcC4), (0xC5000000#32, 2, .xferVcC5),
      (0xC6000000#32, 2, .xferVcC6), (0xC7000000#32, 2, .xferVcC7), (0xC8000000#32, 2, .xferVcC8),
      (0xC9000000#32, 2, .xferVcC9), (0xCA000000#32, 2, .xferVcCA), (0xCB000000#32, 2, .xferVcCB),
      (0xCC000000#32, 2, .xferVcCC), (0xCD000000#32, 2, .xferVcCD), (0xCE000000#32, 2, .xferVcCE),
      (0xCF000000#32, 2, .xferVcCF), (0xD0000000#32, 2, .xferVcD0), (0xD1000000#32, 2, .xferVcD1),
      (0xD2000000#32, 2, .xferVcD2), (0xD3000000#32, 2, .xferVcD3), (0xD4000000#32, 2, .xferVcD4),
      (0xD5000000#32, 2, .xferVcD5), (0xD6000000#32, 2, .xferVcD6), (0xD7000000#32, 2, .xferVcD7),
      (0xD8000000#32, 2, .xferVcD8), (0xD9000000#32, 2, .xferVcD9), (0xDA000000#32, 2, .xferVcDA),
      (0xDB000000#32, 2, .xferVcDB), (0xDC000000#32, 2, .xferVcDC), (0xDD000000#32, 2, .xferVcDD),
      (0xDE000000#32, 2, .xferVcDE), (0xDF000000#32, 2, .xferVcDF)].all rowDecodes = true := by decide

/-- NOP_UNK 0xE0, 0xE7 to 0xFF, and TWIN 0xE2 (R114, R131). -/
theorem test_decode_unknown_high :
    [(0xE0000000#32, 0, .nopUnkE0), (0xE2000000#32, 0, .twin), (0xE7000000#32, 0, .nopUnkE7),
      (0xE8000000#32, 0, .nopUnkE8), (0xE9000000#32, 0, .nopUnkE9), (0xEA000000#32, 0, .nopUnkEA),
      (0xEB000000#32, 0, .nopUnkEB), (0xEC000000#32, 0, .nopUnkEC), (0xED000000#32, 0, .nopUnkED),
      (0xEE000000#32, 0, .nopUnkEE), (0xEF000000#32, 0, .nopUnkEF), (0xF0000000#32, 0, .nopUnkF0),
      (0xF1000000#32, 0, .nopUnkF1), (0xF2000000#32, 0, .nopUnkF2), (0xF3000000#32, 0, .nopUnkF3),
      (0xF4000000#32, 0, .nopUnkF4), (0xF5000000#32, 0, .nopUnkF5), (0xF6000000#32, 0, .nopUnkF6),
      (0xF7000000#32, 0, .nopUnkF7), (0xF8000000#32, 0, .nopUnkF8), (0xF9000000#32, 0, .nopUnkF9),
      (0xFA000000#32, 0, .nopUnkFA), (0xFB000000#32, 0, .nopUnkFB), (0xFC000000#32, 0, .nopUnkFC),
      (0xFD000000#32, 0, .nopUnkFD), (0xFE000000#32, 0, .nopUnkFE), (0xFF000000#32, 0, .nopUnkFF)].all rowDecodes = true := by decide

/-- LP4, LP5, LP6, LP10: partial commands, one word short. -/
theorem test_decode_incomplete :
    decode [0x20000000#32, 0#32, 0#32] = .error .incomplete ∧
      decode (0x2C000000#32 :: List.replicate 7 0#32) = .error .incomplete ∧
      decode [0x80000000#32, 0#32, 0#32] = .error .incomplete := by decide

/-- R77: the encoder's own words for the spec's examples. -/
theorem test_encode_examples :
    encode (.drawofs (-5) 7) = [0xE5003FFB#32] ∧ encode (.clipTl 10 20) = [0xE300500A#32] ∧
      encode (.polyF3 0x112233#24 ⟨10, 20⟩ ⟨110, 20⟩ ⟨10, 120⟩) = triangle ∧
      encode .polyAck25 = 0x25000000#32 :: List.replicate 6 0#32 := by decide

/-- The host's numbering: the table's first word in the low bits, the words above zero. -/
theorem test_decodeTableWord :
    decodeTableWord 32 0xE5003FFB = some (.drawofs (-5) 7) ∧
      decodeTableWord 128 0x0078000A_0014006E_0014000A_20112233 =
        some (.polyF3 0x112233#24 ⟨10, 20⟩ ⟨110, 20⟩ ⟨10, 120⟩) := by decide

/-! ### One step each -/

/-- SS1, SS5, SS8, SS9, SS10: each state-setting command, its registers. -/
theorem test_step_tpage : (after (step (running [0xE100012A#32]))).texStat = 0x12A#11 := by rfl
theorem test_step_clipTl :
    (after (step (running [0xE300500A#32]))).clipX1 = 10#10 ∧
      (after (step (running [0xE300500A#32]))).clipY1 = 20#9 := ⟨rfl, rfl⟩
theorem test_step_clipBr :
    (after (step (running [0xE403BD3F#32]))).clipX2 = 319#10 ∧
      (after (step (running [0xE403BD3F#32]))).clipY2 = 239#9 := ⟨rfl, rfl⟩
theorem test_step_drawofs :
    (after (step (running [0xE5003FFB#32]))).ofsX.toInt = -5 ∧
      (after (step (running [0xE5003FFB#32]))).ofsY.toInt = 7 := ⟨rfl, rfl⟩
theorem test_step_maskbits :
    (after (step (running [0xE6000001#32]))).maskSet = true ∧
      (after (step (running [0xE6000001#32]))).maskChk = false := ⟨rfl, rfl⟩

/-- PG2: after CLIP_TL 10, 20 the triangle's first vertex comes out at (0, 0), its second at (100, 0). -/
theorem test_step_polyF3 :
    (after (step { running triangle with clipX1 := 10, clipY1 := 20 })).out =
      [.style .flat .gequal Config.cullMode,
        .vtx (Config.scale Config.hscale 0) (Config.scale Config.vscale 0) Config.depthConst 0x332211#24 false,
        .vtx (Config.scale Config.hscale 100) (Config.scale Config.vscale 0) Config.depthConst 0x332211#24 false,
        .vtx (Config.scale Config.hscale 0) (Config.scale Config.vscale 100) Config.depthConst 0x332211#24 true] := by rfl

/-- PG5, its last two vertices: each with the colour word before it. -/
theorem test_step_polyG4 :
    (after (step (running [0x38FFFFFF#32, 0xFFFFFFFF#32, 0#32, 0xFFFF0001#32, 0x00808080#32, 0x0001FFFF#32,
      0x00010203#32, 0x00010001#32]))).out.drop 3 =
      [.vtx (Config.scale Config.hscale (-1)) (Config.scale Config.vscale 1) Config.depthConst 0x808080#24 false,
        .vtx (Config.scale Config.hscale 1) (Config.scale Config.vscale 1) Config.depthConst 0x030201#24 true] := by rfl

/-- LN8: the right endpoint is given first; the left one is emitted first, with its own colour. -/
theorem test_step_lineG2 :
    (after (step (running [0x500000FF#32, 0x00050014#32, 0x0000FF00#32, 0x000F0000#32]))).out.drop 1 =
      [.vtx (Config.scale Config.hscale 0) (Config.scale Config.vscale 15) Config.depthConst 0x00FF00#24 false,
        .vtx (Config.scale Config.hscale 20) (Config.scale Config.vscale 5) Config.depthConst 0xFF0000#24 false,
        .vtx (Config.scale Config.hscale 21) (Config.scale Config.vscale 6) Config.depthConst 0xFF0000#24 false,
        .vtx (Config.scale Config.hscale 0) (Config.scale Config.vscale 15) Config.depthConst 0x00FF00#24 false,
        .vtx (Config.scale Config.hscale 21) (Config.scale Config.vscale 6) Config.depthConst 0xFF0000#24 false,
        .vtx (Config.scale Config.hscale 1) (Config.scale Config.vscale 16) Config.depthConst 0x00FF00#24 true] := by rfl

/-- RC3: the far corner does not wrap. -/
theorem test_step_rectF :
    (after (step (running [0x60FFFFFF#32, 0x00007FFF#32, 0x0001FFFF#32]))).out.drop 4 =
      [.vtx (Config.scale Config.hscale 98302) (Config.scale Config.vscale 1) Config.depthConst 0xFFFFFF#24 true] := by rfl

/-- T8, FL2, FL3, FL4: the rounding and the area. -/
theorem test_fill_rounding :
    [0, 1, 2, 16, 17, 18, 320, 65535].map blockRound = [0, 0, 16, 16, 16, 32, 320, 65536] ∧
      fillArea 1 1 = 0 ∧ fillArea 18 3 = 96 ∧ fillArea 65535 2 = 131072 := by decide

/-- FL1: the cost of the area is accounted, nothing is emitted. -/
theorem test_step_fill :
    (after (step (running [0x02000000#32, 0#32, 0x00F00140#32]))).cycSum = 0 + (Config.cost 0x02#8 76800 : Int) ∧
      (after (step (running [0x02000000#32, 0#32, 0x00F00140#32]))).out = [] := ⟨rfl, rfl⟩

/-- LP8, LP7, PG8: acknowledged commands move past all their words and emit nothing. -/
theorem test_step_acknowledged :
    (after (step (running (0x3C000000#32 :: List.replicate 11 0#32)))).pos = 12 ∧
      (after (step (running (0x2C000000#32 :: List.replicate 8 0#32)))).lastOp = .opcode 0x2C#8 ∧
      (after (step (running [0x22112233#32, 0x0014000A#32, 0x0014006E#32, 0x0078000A#32]))).out = [] :=
  ⟨rfl, rfl, rfl⟩

/-- SS12: the exit writes the mask flag and keeps the host's bits. -/
theorem test_step_exit :
    (after (step { running [] with maskSet := true, status := 0x80000000#32 })).status = 0x80000800#32 := by rfl

/-- LP11: the incomplete stop writes `STATUS` back too, and answers -1. -/
theorem test_step_incomplete :
    (after (step { running [0x20000000#32, 0#32] with texStat := 5 })).status = 5#32 ∧
      (after (step { running [0x20000000#32, 0#32] with texStat := 5 })).result = (0, 0, 0, -1) := ⟨rfl, rfl⟩

/-- PG9: a drawn command outside a batch. -/
theorem test_step_outside_batch :
    step { running triangle with batchOpen := false } = .fault .emitOutsideBatch := by rfl

/-- After reset the placed word is what the next step runs, drawn or not. -/
theorem test_withFetchWord :
    (after (step (State.reset.withFetchWord 32 0xE5003FFB))).ofsX.toInt = -5 ∧
      (after (step (State.reset.withFetchWord 32 0x60112233))).out.length = 5 := ⟨rfl, rfl⟩

/-! ### Witnesses: states and operands that meet the hypotheses of the obligations -/

theorem witness_DecodeInvertsEncode :
    (Instr.rectF 0xFFFFFF#24 ⟨-32768, 32767⟩ 65535 0).wellFormed = true ∧
      (Instr.drawofs (-1024) 1023).wellFormed = true := by decide

theorem witness_DecodeConsumesOneCommand : ∃ i, decode (triangle ++ [0x20000000#32]) = .ok (i, [0x20000000#32]) :=
  ⟨_, rfl⟩

theorem witness_EveryOpcodeDecodes :
    1 + len (opcodeField 0x3C000000#32) ≤ (0x3C000000#32 :: List.replicate 11 0#32).length ∧
      (0x3C000000#32 :: List.replicate 10 0#32).length < 1 + len (opcodeField 0x3C000000#32) := by decide

/-- POLY_G3 with and without the top byte of its second colour, and CLIP_TL with and without bit 19. -/
theorem witness_UncoveredBitsChangeNothing :
    (let p := copyWords [0x30000001#32, 2#32, 0xAA000003#32] (Vector.replicate 16 0#32)
     let q := copyWords [0x30000001#32, 2#32, 0x00000003#32] (Vector.replicate 16 0#32)
     ∀ k (h : k < 16), p[k] &&& fieldMask (opcodeField p[0]) k = q[k] &&& fieldMask (opcodeField p[0]) k) ∧
    (let p := copyWords [0xE3080000#32] (Vector.replicate 16 0#32)
     let q := copyWords [0xE3000000#32] (Vector.replicate 16 7#32)
     ∀ k (h : k < 16), p[k] &&& fieldMask (opcodeField p[0]) k = q[k] &&& fieldMask (opcodeField p[0]) k) := by
  decide

theorem witness_ByteStreamsAreLittleEndian : [1#8, 2#8, 3#8].length % 4 ≠ 0 := by decide

theorem witness_VertexWidthsAgree :
    -1024 ≤ (rawVertex .bits16 0x03FFFC00#32).x ∧ (rawVertex .bits16 0x03FFFC00#32).x ≤ 1023 ∧
      -1024 ≤ (rawVertex .bits16 0x03FFFC00#32).y ∧ (rawVertex .bits16 0x03FFFC00#32).y ≤ 1023 := by decide

theorem witness_StepRunsTheDecodedInstruction :
    (running triangle).phase = .running ∧ ∃ i, decode ((running triangle).buf.drop (running triangle).pos) = .ok (i, []) :=
  ⟨rfl, _, rfl⟩

/-- At the widest `n`, and with `k` on both sides of a shorter one. -/
theorem witness_PacketCopyHoldsTheCommand :
    (running (List.replicate 16 9#32)).pos + 1 + 15 ≤ (running (List.replicate 16 9#32)).buf.length ∧
      (running triangle).pos + 1 + 3 ≤ (running triangle).buf.length ∧ (3 : Nat) ≤ 3 ∧ (3 : Nat) < 4 ∧
      (running triangle).phase = .running ∧ fetch (running triangle) = .command 3 := by decide

theorem witness_EndOfBufferExits :
    (running []).phase = .running ∧ (running []).pos = (running []).buf.length ∧
      ∃ t, step (running []) = .next t ∧ t.phase = .idle := ⟨rfl, rfl, _, rfl, rfl⟩

/-- One word short; and a command of one word, the last of its buffer. -/
theorem witness_IncompleteStopsBeforeTheCommand :
    ((running [0x20000000#32, 0#32, 0#32]).buf[(running [0x20000000#32, 0#32, 0#32]).pos]? = some 0x20000000#32 ∧
      3 - 0 < 1 + len (opcodeField 0x20000000#32) ∧
      ∃ t, step (running [0x20000000#32, 0#32, 0#32]) = .next t ∧ t.phase = .idle) ∧
    (running [0xE1000000#32]).buf[(running [0xE1000000#32]).pos]? = some 0xE1000000#32 ∧
      len (opcodeField 0xE1000000#32) = 0 := ⟨⟨rfl, by decide, _, rfl, rfl⟩, rfl, rfl⟩

theorem witness_ExitWritesStatusBack :
    (running []).pos = (running []).buf.length ∧
      ∃ w0, (running [0x20000000#32]).buf[(running [0x20000000#32]).pos]? = some w0 ∧
        (running [0x20000000#32]).buf.length - (running [0x20000000#32]).pos < 1 + len (opcodeField w0) :=
  ⟨rfl, 0x20000000#32, rfl, by decide⟩

theorem witness_InvocationStartsAtZero :
    (waiting [.invoke triangle 7 100]).phase = .idle ∧
      (waiting [.invoke triangle 7 100]).script = .invoke triangle 7 100 :: [] := ⟨rfl, rfl⟩

theorem witness_EmptyBufferExitsAtOnce :
    (waiting [.invoke [] 7 100, .endBatch]).phase = .idle ∧
      (waiting [.invoke [] 7 100, .endBatch]).script = .invoke [] 7 100 :: [.endBatch] := ⟨rfl, rfl⟩

theorem witness_ExecutedCommandIsConsumed :
    (∃ t, exec (.fill 0 0 65535 2) (running []) = .next t) ∧
      ∃ t, exec .nopUnkFF (running []) = .next t ∧ opcodeOf .nopUnkFF ≠ 0x02#8 := ⟨⟨_, rfl⟩, _, rfl, by decide⟩

theorem witness_InvocationEnds :
    (∃ t, step (running triangle) = .next t ∧ t.phase = .running) ∧
      (running triangle).pos ≤ (running triangle).buf.length ∧ (running triangle).batchOpen = true :=
  ⟨⟨_, rfl, rfl⟩, by decide, rfl⟩

theorem witness_CompleteBufferIsConsumed :
    (∀ c ∈ [triangle, [0xE1000005#32]], IsCommand c) ∧
      (running (triangle ++ [0xE1000005#32])).buf.drop (running (triangle ++ [0xE1000005#32])).pos =
        [triangle, [0xE1000005#32]].flatten ∧
      [triangle, [0xE1000005#32]].getLast? = some [0xE1000005#32] := by
  refine ⟨?_, rfl, rfl⟩
  unfold IsCommand
  decide

/-- CLIP_TL, then a triangle that lacks its last word (T2). -/
theorem witness_PartialCommandResumes :
    IsCommand [0xE300500A#32] ∧ IsCommand (triangle.take 3 ++ triangle.drop 3) ∧ triangle.take 3 ≠ [] ∧
      triangle.drop 3 ≠ [] ∧
      (running (0xE300500A#32 :: triangle.take 3)).buf.drop (running (0xE300500A#32 :: triangle.take 3)).pos =
        [[0xE300500A#32]].flatten ++ triangle.take 3 ∧
      (running (0xE300500A#32 :: triangle.take 3)).batchOpen = true := by
  unfold IsCommand
  decide

theorem witness_ResumeWithoutWordsStopsAgain :
    let s := { waiting [.resume []] with buf := [0xE1000000#32, 0x20000000#32], pos := 1 }
    s.phase = .idle ∧ s.script = .resume [] :: [] ∧ s.buf[s.pos]? = some 0x20000000#32 ∧
      s.buf.length - s.pos < 1 + len (opcodeField 0x20000000#32) := by decide

theorem witness_StepKeepsCommandBoundary :
    AtBoundary { running (0xE1000005#32 :: triangle) with pos := 1 } ∧
      ∃ t, step { running (0xE1000005#32 :: triangle) with pos := 1 } = .next t :=
  ⟨⟨by decide, [[0xE1000005#32]], by unfold IsCommand; decide, rfl⟩, _, rfl⟩

theorem witness_StepKeepsOutputWellFormed :
    OutWellFormed (running triangle) ∧ ∃ t, step (running triangle) = .next t :=
  ⟨⟨[], by simp, rfl⟩, _, rfl⟩

/-- A running state whose registers `STATUS` does not mirror yet, and an idle one that it does. -/
theorem witness_StepKeepsStatusMirror :
    StatusMirrors { running [] with texStat := 5 } ∧ (∃ t, step { running [] with texStat := 5 } = .next t) ∧
      StatusMirrors (waiting [.writeStatusHost 1]) ∧ ∃ t, step (waiting [.writeStatusHost 1]) = .next t :=
  ⟨(fun h => nomatch h), ⟨_, rfl⟩, fun _ => by decide, _, rfl⟩

theorem witness_DisciplinedHostNeverFaults :
    (waiting [.beginBatch, .invoke triangle 0 0, .endBatch]).pos ≤
        (waiting [.beginBatch, .invoke triangle 0 0, .endBatch]).buf.length ∧
      Disciplined (waiting [.beginBatch, .invoke triangle 0 0, .endBatch]) :=
  ⟨by decide, by decide, (fun h => nomatch h)⟩

theorem witness_OutputIsAppendOnly : ∃ t, step (running triangle) = .next t ∧ t.out ≠ [] :=
  ⟨_, rfl, fun h => by cases h⟩

theorem witness_HostWaitsDuringInvocation :
    (running triangle).phase = .running ∧ ∃ t, step (running triangle) = .next t := ⟨rfl, _, rfl⟩

theorem witness_RegistersPersistBetweenInvocations :
    (waiting [.writeStatusHost 1]).phase = .idle ∧ ∃ t, step (waiting [.writeStatusHost 1]) = .next t := ⟨rfl, _, rfl⟩

/-- Each of the five writers, and a command that writes nothing, completes. -/
theorem witness_OnlyDesignatedOpcodesWrite :
    (∃ t, exec (.tpage 2047) (running []) = .next t) ∧ (∃ t, exec (.clipTl 1023 511) (running []) = .next t) ∧
      (∃ t, exec (.clipBr 1023 511) (running []) = .next t) ∧
      (∃ t, exec (.drawofs (-1024) 1023) (running []) = .next t) ∧
      (∃ t, exec (.maskbits true true) (running []) = .next t) ∧
      (∃ t, exec .twin (running []) = .next t) ∧ isWriter .twin = false ∧
      ∃ t, step (running triangle) = .next t ∧ t.phase = .running :=
  ⟨⟨_, rfl⟩, ⟨_, rfl⟩, ⟨_, rfl⟩, ⟨_, rfl⟩, ⟨_, rfl⟩, ⟨_, rfl⟩, rfl, _, rfl, rfl⟩

theorem witness_NoOtherConditionExists :
    step { running triangle with batchOpen := false } = .fault .emitOutsideBatch ∧
      step { running [] with pos := 1 } = .fault .posBeyondBuffer := ⟨rfl, rfl⟩

theorem witness_UnreadRegistersNeverReachTheOutput : ∃ t, run 2 (running triangle) = .next t := ⟨_, rfl⟩

theorem witness_AcknowledgedCommandsOnlyAdvance :
    isAcknowledged .twin = true ∧ isAcknowledged .nopUnk00 = true ∧ isAcknowledged .polyAck3F = true ∧
      isAcknowledged .lineAck41 = true ∧ isAcknowledged .rectAck7F = true ∧ isAcknowledged .xferVv80 = true ∧
      isAcknowledged .xferVcDF = true := by decide

theorem witness_TpageWritesTexstat : opcodeField 0xE1FFFFFF#32 = 0xE1#8 ∧ (2047 : Nat) ≤ 2047 := by decide

theorem witness_ClipTlWritesTheTopLeftCorner :
    opcodeField 0xE3FFFFFF#32 = 0xE3#8 ∧ (1023 : Nat) ≤ 1023 ∧ (511 : Nat) ≤ 511 := by decide

theorem witness_ClipBrWritesTheBottomRightCorner :
    opcodeField 0xE4000000#32 = 0xE4#8 ∧ (0 : Nat) ≤ 1023 ∧ (0 : Nat) ≤ 511 := by decide

theorem witness_DrawofsWritesTheOffset :
    opcodeField 0xE5C00000#32 = 0xE5#8 ∧ (-1024 : Int) ≤ -1024 ∧ (1023 : Int) ≤ 1023 := by decide

theorem witness_MaskbitsWritesTheFlags : opcodeField 0xE6FFFFFC#32 = 0xE6#8 := by decide

theorem witness_FlatPolygonsEmitTheirVertices :
    (running []).batchOpen = true ∧
      (∃ t, exec (.polyF3 0 ⟨-32768, 32767⟩ ⟨0, 0⟩ ⟨0, 0⟩) (running []) = .next t) ∧
      ∃ t, exec (.polyF4 0 ⟨0, 0⟩ ⟨0, 0⟩ ⟨0, 0⟩ ⟨32767, -32768⟩) (running []) = .next t := ⟨rfl, ⟨_, rfl⟩, _, rfl⟩

theorem witness_ShadedPolygonsEmitTheirVertices :
    (running []).batchOpen = true ∧
      (∃ t, exec (.polyG3 0 ⟨-32768, 32767⟩ 1 ⟨0, 0⟩ 2 ⟨0, 0⟩) (running []) = .next t) ∧
      ∃ t, exec (.polyG4 0 ⟨0, 0⟩ 1 ⟨0, 0⟩ 2 ⟨0, 0⟩ 3 ⟨0, 0⟩) (running []) = .next t := ⟨rfl, ⟨_, rfl⟩, _, rfl⟩

/-- Endpoints in either order and at one x. -/
theorem witness_LinesEmitTheirQuad :
    (running []).batchOpen = true ∧ (∃ t, exec (.lineF2 0 ⟨10, 0⟩ ⟨0, 0⟩) (running []) = .next t) ∧
      ∃ t, exec (.lineG2 0 ⟨5, 10⟩ 1 ⟨5, 0⟩) (running []) = .next t := ⟨rfl, ⟨_, rfl⟩, _, rfl⟩

theorem witness_RectangleEmitsItsCorners :
    (running []).batchOpen = true ∧ ∃ t, exec (.rectF 0 ⟨32767, 0⟩ 65535 0) (running []) = .next t := ⟨rfl, _, rfl⟩

theorem witness_DrawnOutsideBatchFaults :
    isDrawn (.rectF 0 ⟨0, 0⟩ 0 0) = true ∧ (waiting []).batchOpen = false ∧ (running []).batchOpen = true ∧
      isDrawn (.fill 0 0 0 0) = false := by decide

/-- Two states that differ in everything a drawn command does not read. -/
theorem witness_DrawnCommandsReadOnlyTheTransform :
    let s' := { running [] with texStat := 5, clipX2 := 1, clipY2 := 2, maskSet := true, status := 7, cycSum := 3 }
    s'.clipX1 = (running []).clipX1 ∧ s'.clipY1 = (running []).clipY1 ∧ s'.ofsX = (running []).ofsX ∧
      s'.ofsY = (running []).ofsY ∧ s'.batchOpen = (running []).batchOpen ∧
      ∃ t, exec (.lineF2 0 ⟨0, 0⟩ ⟨10, 0⟩) (running []) = .next t := ⟨rfl, rfl, rfl, rfl, rfl, _, rfl⟩

theorem witness_LineIgnoresEndpointOrder : (⟨0, 5⟩ : Vertex).x ≠ (⟨1, 5⟩ : Vertex).x := by decide

theorem witness_EmittedCoordinatesAreBounded :
    ∃ t r rs, step (running triangle) = .next t ∧ t.out = (running triangle).out ++ (r :: rs) ∧
      ∃ x y z colour eor, Record.vtx x y z colour eor ∈ r :: rs :=
  ⟨_, _, _, rfl, rfl, _, _, _, _, _, .tail _ (.head _)⟩

theorem witness_BatchActionsOpenAndClose :
    (waiting [.beginBatch]).phase = .idle ∧ (waiting [.beginBatch]).script = .beginBatch :: [] ∧
      (waiting [.endBatch]).script = .endBatch :: [] := ⟨rfl, rfl, rfl⟩

theorem witness_HostWritesOnlyItsStatusBits :
    (waiting [.writeStatusHost 0x7FFFF]).phase = .idle ∧
      (waiting [.writeStatusHost 0x7FFFF]).script = .writeStatusHost 0x7FFFF :: [] := ⟨rfl, rfl⟩

/-- A run of each length. -/
theorem witness_EorMarksTheLastVertexAlone :
    (isDrawn (.polyG3 0 ⟨0, 0⟩ 0 ⟨1, 0⟩ 0 ⟨0, 1⟩) = true ∧
        ∃ t, exec (.polyG3 0 ⟨0, 0⟩ 0 ⟨1, 0⟩ 0 ⟨0, 1⟩) (running []) = .next t) ∧
      (isDrawn (.rectF 0 ⟨0, 0⟩ 1 1) = true ∧ ∃ t, exec (.rectF 0 ⟨0, 0⟩ 1 1) (running []) = .next t) ∧
      isDrawn (.lineF2 0 ⟨0, 0⟩ ⟨10, 0⟩) = true ∧
        ∃ t, exec (.lineF2 0 ⟨0, 0⟩ ⟨10, 0⟩) (running []) = .next t :=
  ⟨⟨rfl, _, rfl⟩, ⟨rfl, _, rfl⟩, rfl, _, rfl⟩

theorem witness_OnlyDrawnCommandsEmit :
    isDrawn (.fill 0 0 65535 2) = false ∧ (∃ t, exec (.fill 0 0 65535 2) (running []) = .next t) ∧
      isDrawn .polyAck21 = false ∧ ∃ t, exec .polyAck21 (running []) = .next t :=
  ⟨rfl, ⟨_, rfl⟩, rfl, _, rfl⟩

/-- A next state with records, and a fault. -/
theorem witness_OutputIsNeverRead :
    (∃ t, step (running triangle) = .next t) ∧
      step { running triangle with batchOpen := false } = .fault .emitOutsideBatch := ⟨⟨_, rfl⟩, rfl⟩

end Sys2Proof.Machine.Tests
end

section
/-! PROOFS. The scope of a step and the state after reset (spec/00_scope.md): what a command leaves around it, the
fields of `STATUS` at reset, and the invariants at an empty buffer and an empty `OUT`. -/

namespace Sys2Proof.Machine

/-! ### What a step within an invocation leaves alone -/

/-- No command touches what stands around it (R16, R22, R24, R104). -/
theorem exec_surroundings {i : Instr} {s t : State} (h : exec i s = .next t) : SameSurroundings s t := by
  obtain ⟨rfl, -⟩ := exec_next h
  constructor <;> simp

/-- Settles O29: each way a step within an invocation can go keeps them; an exit rewrites `STATUS[12:0]` only. -/
theorem hostWaitsDuringInvocation : Obligations.HostWaitsDuringInvocation := by
  intro s t hrun hstep
  obtain ⟨-, rfl⟩ | ⟨-, rfl⟩ | ⟨n, -, hexec⟩ := step_running_cases hrun hstep
  · simp
  · simp
  · obtain ⟨hstatus, hbuf, hbatch, -, hscript⟩ := exec_surroundings hexec
    exact ⟨hscript, hbatch, hbuf, congrArg statusHost hstatus⟩

/-! ### The invariants where nothing has been consumed or emitted -/

/-- The start of any buffer is a command boundary. -/
theorem atBoundary_of_pos_eq_zero {s : State} (h : s.pos = 0) : AtBoundary s :=
  ⟨by omega, [], by simp, by simp [h]⟩

/-- An empty `OUT` is a sequence of no primitives. -/
theorem outWellFormed_of_out_eq_nil {s : State} (h : s.out = []) : OutWellFormed s :=
  ⟨[], by simp, by simpa using h⟩

/-! ### The fields of a `STATUS` put together from `STATUS[31:13]` and `STATUS[12:0]` (R16) -/

@[simp] theorem statusTex_append (high : BitVec 19) (low : BitVec 13) :
    statusTex (high ++ low) = low.extractLsb' 0 11 :=
  BitVec.extractLsb'_append_eq_of_add_le (by decide)

@[simp] theorem statusMset_append (high : BitVec 19) (low : BitVec 13) :
    statusMset (high ++ low) = low.getLsbD 11 :=
  BitVec.getLsbD_append

@[simp] theorem statusMchk_append (high : BitVec 19) (low : BitVec 13) :
    statusMchk (high ++ low) = low.getLsbD 12 :=
  BitVec.getLsbD_append

/-! ### Reset -/

/-- After reset `STATUS` mirrors the registers exactly when the parameter `RESET_STATE` does (R26). -/
theorem statusMirrors_resetWith (r : ResetState) :
    StatusMirrors (State.resetWith r) ↔
      r.statusLow.extractLsb' 0 11 = r.registers.texStat ∧ r.statusLow.getLsbD 11 = r.registers.maskSet ∧
        r.statusLow.getLsbD 12 = r.registers.maskChk := by
  simp [StatusMirrors]

/-- Settles O25: reset stands at the start of an empty buffer with an empty `OUT`, and the decided zeros mirror. -/
theorem invariantsHoldAtReset : Obligations.InvariantsHoldAtReset := by
  have hpos (r : ResetState) : AtBoundary (State.resetWith r) := atBoundary_of_pos_eq_zero (resetWith_pos r)
  have hout (r : ResetState) : OutWellFormed (State.resetWith r) := outWellFormed_of_out_eq_nil (resetWith_out r)
  have hmirror : StatusMirrors State.reset := (statusMirrors_resetWith Config.resetState).mpr (by decide)
  exact ⟨fun r => ⟨hpos r, hout r, statusMirrors_resetWith r⟩, hpos _, hout _, hmirror⟩

/-- With nothing left in the host's script an idle block stays as it is (R212, R220). -/
theorem step_of_idle_of_script_nil {s : State} (hp : s.phase = .idle) (hs : s.script = []) : step s = .next s := by
  rw [step_of_idle hp, stepHost, hs]

/-- Nothing executes after reset until the host acts (R220). -/
theorem step_resetWith (r : ResetState) : step (State.resetWith r) = .next (State.resetWith r) :=
  step_of_idle_of_script_nil (resetWith_phase r) (resetWith_script r)

/-- Settles O26: the fields of reset are those of its parameter, and the host's script is empty. -/
theorem resetStateIsIdleAndZero : Obligations.ResetStateIsIdleAndZero := by
  refine ⟨fun r => ⟨resetWith_persistent r, ?_, resetWith_batchOpen r, resetWith_out r, resetWith_phase r,
    step_resetWith r⟩, rfl, rfl, ?_, ?_, ?_, rfl, rfl, rfl, step_resetWith _⟩
  · exact BitVec.extractLsb'_append_eq_right
  · exact statusTex_append 0 0
  · exact statusMset_append 0 0
  · exact statusMchk_append 0 0

end Sys2Proof.Machine
end

section
/-! PROOFS. The state (spec/10_state.md), step by step: the command a step executes, what a step between invocations
leaves, and from these the invariants and frames of every step. -/

namespace Sys2Proof.Machine

/-! ### The command at POS (R60, R92 to R96) -/

/-- The opcode word at `POS` and the `operands` words after it, which the packet copy reads (R96). -/
def State.commandAt (s : State) (operands : Nat) : List Word := s.unconsumed.take (1 + operands)

/-- With `1 + operands` words from `POS` on, the packet copy has as many to copy. -/
theorem length_commandAt {s : State} {operands : Nat} (h : s.pos + 1 + operands ≤ s.buf.length) :
    (s.commandAt operands).length = 1 + operands := by
  simp only [State.commandAt, State.unconsumed, List.length_take, List.length_drop]
  omega

/-- The command at `POS` begins with the word there. -/
theorem headD_commandAt {s : State} {w0 : Word} (operands : Nat) (h : s.buf[s.pos]? = some w0) :
    (s.commandAt operands).headD 0 = w0 := by
  simp [State.commandAt, State.unconsumed, List.head?_take, h, Nat.one_add]

/-- The words up to the end of the command at `POS` are those before it and its own. -/
theorem take_buf_add (s : State) (operands : Nat) :
    s.buf.take (s.pos + (1 + operands)) = s.buf.take s.pos ++ s.commandAt operands :=
  List.take_add

/-- What the fetch finds is one whole command (R60, R95), its length the one its opcode has. -/
theorem isCommand_of_fetch {s : State} {n : Nat} (h : fetch s = .command n) :
    IsCommand (s.commandAt n) ∧ n = len (opcodeField ((s.commandAt n).headD 0)) ∧
      s.pos + 1 + n ≤ s.buf.length := by
  obtain ⟨w0, hw, rfl, hfits⟩ := fetch_command h
  have hhead := headD_commandAt (len (opcodeField w0)) hw
  exact ⟨by rw [IsCommand, hhead, length_commandAt hfits], by rw [hhead], hfits⟩

/-! ### Reading a command stays within its words (R18, R75) -/

/-- `read` looks at no packet word above entry `n`. -/
def ReadsUpTo (n : Nat) (read : Packet → Instr) : Prop :=
  ∀ p q : Packet, (∀ k (hk : k < 16), k ≤ n → p[k] = q[k]) → read p = read q

@[simp] theorem readAck_readsUpTo (n : Nat) (i : Instr) : ReadsUpTo n (readAck i) := fun _ _ _ => rfl
@[simp] theorem readFill_readsUpTo : ReadsUpTo 2 readFill := fun _ _ h => by simp [readFill, h]
@[simp] theorem readPolyF3_readsUpTo : ReadsUpTo 3 readPolyF3 := fun _ _ h => by simp [readPolyF3, h]
@[simp] theorem readPolyF4_readsUpTo : ReadsUpTo 4 readPolyF4 := fun _ _ h => by simp [readPolyF4, h]
@[simp] theorem readPolyG3_readsUpTo : ReadsUpTo 5 readPolyG3 := fun _ _ h => by simp [readPolyG3, h]
@[simp] theorem readPolyG4_readsUpTo : ReadsUpTo 7 readPolyG4 := fun _ _ h => by simp [readPolyG4, h]
@[simp] theorem readLineF2_readsUpTo : ReadsUpTo 2 readLineF2 := fun _ _ h => by simp [readLineF2, h]
@[simp] theorem readLineG2_readsUpTo : ReadsUpTo 3 readLineG2 := fun _ _ h => by simp [readLineG2, h]
@[simp] theorem readRectF_readsUpTo : ReadsUpTo 2 readRectF := fun _ _ h => by simp [readRectF, h]
@[simp] theorem readTpage_readsUpTo : ReadsUpTo 0 readTpage := fun _ _ h => by simp [readTpage, h]
@[simp] theorem readClipTl_readsUpTo : ReadsUpTo 0 readClipTl := fun _ _ h => by simp [readClipTl, h]
@[simp] theorem readClipBr_readsUpTo : ReadsUpTo 0 readClipBr := fun _ _ h => by simp [readClipBr, h]
@[simp] theorem readDrawofs_readsUpTo : ReadsUpTo 0 readDrawofs := fun _ _ h => by simp [readDrawofs, h]
@[simp] theorem readMaskbits_readsUpTo : ReadsUpTo 0 readMaskbits := fun _ _ h => by simp [readMaskbits, h]

/-- Row by row, no opcode is read from beyond its length (R61, R73). -/
theorem opcodeMap_readsUpTo : List.Forall₂ ReadsUpTo tLen opcodeMap := by
  unfold tLen opcodeMap
  repeat' refine List.rel_append ?_ ?_
  all_goals simp

theorem toNat_lt_opcodeMap_length (op : Byte) : op.toNat < opcodeMap.length := by
  rw [opcodeMap_length]
  exact op.isLt

/-- The reader of opcode `op` looks at no operand word the command does not have (R61). -/
theorem reader_readsUpTo (op : Byte) :
    ReadsUpTo (len op) (opcodeMap[op.toNat]'(toNat_lt_opcodeMap_length op)) := by
  have hlt : op.toNat < tLen.length := by
    rw [opcodeMap_readsUpTo.length_eq]
    exact toNat_lt_opcodeMap_length op
  rw [len, List.getD_eq_getElem _ _ hlt]
  exact opcodeMap_readsUpTo.get hlt (toNat_lt_opcodeMap_length op)

theorem decodePacket_of_opcode {p : Packet} {op : Byte} (h : opcodeField p[0] = op) :
    decodePacket p = (opcodeMap[op.toNat]'(toNat_lt_opcodeMap_length op)) p := by
  subst h
  rfl

/-- The packet words above a command do not take part in reading it (R18, D26). -/
theorem decodePacket_congr {p q : Packet}
    (h : ∀ k (hk : k < 16), k ≤ len (opcodeField p[0]) → p[k] = q[k]) : decodePacket p = decodePacket q := by
  have h0 : p[0] = q[0] := h 0 (by omega) (Nat.zero_le _)
  rw [decodePacket_of_opcode rfl, decodePacket_of_opcode (congrArg opcodeField h0.symm)]
  exact reader_readsUpTo _ p q h

/-- The packet copy of a whole command puts its opcode word first (R60, R96). -/
theorem copyWords_getElem_zero {c : List Word} (hc : IsCommand c) (old : Packet) :
    (copyWords c old)[0] = c.headD 0 := by
  cases c with
  | nil =>
    rw [IsCommand, List.length_nil] at hc
    omega
  | cons w0 tail => rw [copyWords_getElem, dif_pos (by simp), List.getElem_cons_zero, List.headD_cons]

/-- A whole command copied over any packet is the instruction it holds. -/
theorem decodePacket_copyWords {c : List Word} (hc : IsCommand c) (old : Packet) :
    decodePacket (copyWords c old) = instrOf c := by
  refine decodePacket_congr fun k hk hkn => ?_
  have hkc : k < c.length := by
    rw [hc, ← copyWords_getElem_zero hc old]
    omega
  rw [copyWords_getElem, copyWords_getElem, dif_pos hkc, dif_pos hkc]

/-- The instruction of a whole command has the opcode of its first word (R60, R73). -/
theorem opcodeOf_instrOf {c : List Word} (hc : IsCommand c) : opcodeOf (instrOf c) = opcodeField (c.headD 0) := by
  rw [instrOf, opcodeOf_decodePacket, copyWords_getElem_zero hc]

/-! ### What a command emits depends on the transform alone (R151, R153, R160) -/

/-- The transform reads the drawing offset and the top-left corner. -/
theorem vertexRun_congr {s t : State} (hx : t.clipX1 = s.clipX1) (hy : t.clipY1 = s.clipY1) (hox : t.ofsX = s.ofsX)
    (hoy : t.ofsY = s.ofsY) (vertices : List (Vertex × Rgb)) : vertexRun t vertices = vertexRun s vertices := by
  fun_induction vertexRun s vertices <;> simp_all [vertexRun, vtxRecord, preScaleX, preScaleY]

/-- States with one drawing offset and one top-left corner emit alike (R160). -/
theorem emitted_congr {s t : State} (hx : t.clipX1 = s.clipX1) (hy : t.clipY1 = s.clipY1) (hox : t.ofsX = s.ofsX)
    (hoy : t.ofsY = s.ofsY) (i : Instr) : emitted i t = emitted i s := by
  unfold emitted
  split
  · rw [primitive, primitive, vertexRun_congr hx hy hox hoy]
  · rfl

/-! ### No command reads the packet but through its operands (R18) -/

/-- A state with other contents in `PKT`. -/
def State.withPkt (s : State) (p : Packet) : State := { s with pkt := p }

theorem packetCopy_eq_withPkt (operands : Nat) (s : State) :
    packetCopy operands s = s.withPkt (packetCopy operands s).pkt := rfl

/-- The retirement drops whatever the packet held. -/
theorem retire_withPkt (op : Byte) (area : Nat) (s : State) (p : Packet) :
    retire op area (s.withPkt p) = retire op area s := by
  unfold retire account
  cases Config.acct <;> rfl

theorem operation_withPkt (i : Instr) (s : State) (p : Packet) :
    operation i (s.withPkt p) = (operation i s).withPkt p := by
  have hout : emitted i (s.withPkt p) = emitted i s := emitted_congr (s := s) (t := s.withPkt p) rfl rfl rfl rfl i
  unfold operation
  rw [hout]
  unfold registerWrites
  split <;> rfl

theorem exec_withPkt (i : Instr) (s : State) (p : Packet) : exec i (s.withPkt p) = exec i s := by
  rw [exec_eq, exec_eq, operation_withPkt, retire_withPkt]
  rfl

/-- A step that finds a whole command executes the instruction the command holds (R96, R97). -/
theorem step_of_command {s : State} {n : Nat} (hp : s.phase = .running) (hf : fetch s = .command n) :
    step s = exec (instrOf (s.commandAt n)) s := by
  have hread : decodePacket (packetCopy n s).pkt = instrOf (s.commandAt n) :=
    decodePacket_copyWords (isCommand_of_fetch hf).1 s.pkt
  calc step s
    _ = exec (decodePacket (packetCopy n s).pkt) (packetCopy n s) := by rw [step_of_running hp, stepCommand, hf]
    _ = exec (instrOf (s.commandAt n)) s := by rw [hread, packetCopy_eq_withPkt, exec_withPkt]

/-- What a completed step within an invocation can do: the two exits, or the command at `POS` (R92 to R100). -/
theorem step_running_outcomes {s t : State} (hp : s.phase = .running) (h : step s = .next t) :
    (fetch s = .bufferEnd ∧ t = exitInvocation s) ∨ (fetch s = .incomplete ∧ t = stopIncomplete s) ∨
      ∃ n, fetch s = .command n ∧ exec (instrOf (s.commandAt n)) s = .next t := by
  obtain hend | hstop | ⟨n, hf, -⟩ := step_running_cases hp h
  · exact .inl hend
  · exact .inr (.inl hstop)
  · exact .inr (.inr ⟨n, hf, step_of_command hp hf ▸ h⟩)

/-! ### The packet copy and the decoder (O9, O10) -/

/-- Where the words at `POS` decode, the fetch finds the decoded instruction as a whole command (R92 to R97). -/
theorem fetch_of_decode {s : State} {i : Instr} {rest : List Word} (h : decode (s.buf.drop s.pos) = .ok (i, rest)) :
    fetch s = .command (len (opcodeOf i)) ∧ i = instrOf (s.commandAt (len (opcodeOf i))) := by
  obtain ⟨w0, tail, hws, hlen, hi, -⟩ := decode_ok h
  have hop : opcodeOf i = opcodeField w0 := opcodeOf_of_decode (hws ▸ h)
  have hw : s.buf[s.pos]? = some w0 := by
    rw [← List.head?_drop, hws, List.head?_cons]
  rw [List.length_drop] at hlen
  rw [hop]
  refine ⟨?_, hi⟩
  simp only [fetch, hw]
  rw [if_neg (by omega), if_neg (by omega)]

/-- Settles O9: the fetch finds the decoded instruction, and what `PKT` holds reaches no operation. -/
theorem stepRunsTheDecodedInstruction : Obligations.StepRunsTheDecodedInstruction := by
  intro s i rest hp hdec
  obtain ⟨hf, hi⟩ := fetch_of_decode hdec
  have hstep : step s = exec i s := by rw [step_of_command hp hf, ← hi]
  exact ⟨by rw [packetCopy_eq_withPkt, exec_withPkt, hstep], hstep⟩

/-- The packet after the copy, entry by entry (R96). -/
theorem packetCopy_pkt_getElem {s : State} {n : Nat} (h : s.pos + 1 + n ≤ s.buf.length) (k : Nat) (hk : k < 16) :
    (k ≤ n → s.buf[s.pos + k]? = some (packetCopy n s).pkt[k]) ∧ (n < k → (packetCopy n s).pkt[k] = s.pkt[k]) := by
  have hlen : (s.commandAt n).length = 1 + n := length_commandAt h
  have hget : (packetCopy n s).pkt[k] = if hk' : k < (s.commandAt n).length then (s.commandAt n)[k] else s.pkt[k] :=
    copyWords_getElem (s.commandAt n) s.pkt k hk
  constructor
  · intro hkn
    rw [hget, dif_pos (by omega)]
    simp [State.commandAt, State.unconsumed, show s.pos + k < s.buf.length by omega]
  · intro hnk
    rw [hget, dif_neg (by omega)]

/-- Settles O10: the copy entry by entry, and a step from any packet executes the same command on the same state. -/
theorem packetCopyHoldsTheCommand : Obligations.PacketCopyHoldsTheCommand := by
  refine ⟨fun s n hfits _ => ⟨packetCopy_pkt_getElem hfits, rfl⟩, fun s n old hp hf => ?_⟩
  calc step (s.withPkt old)
    _ = exec (instrOf (s.commandAt n)) (s.withPkt old) := step_of_command (s := s.withPkt old) hp hf
    _ = exec (instrOf (s.commandAt n)) s := exec_withPkt _ _ _
    _ = step s := (step_of_command hp hf).symm

end Sys2Proof.Machine
end

section
/-! PROOFS. The state (spec/10_state.md), its invariants and frames: what every step keeps, what it appends to `OUT`,
and which registers it writes. -/

namespace Sys2Proof.Machine

/-! ### Between invocations (R210, R212) -/

/-- What a step between invocations leaves: it opens or closes the batch (or does nothing), starts an invocation, or
writes the host's own bits of `STATUS`. -/
theorem step_idle_outcomes {s t : State} (hp : s.phase = .idle) (h : step s = .next t) :
    ∃ rest, (∃ isOpen, t = { s with script := rest, batchOpen := isOpen }) ∨
      (∃ words carry sum, t = invoke words carry sum { s with script := rest }) ∨
      ∃ bits, t = { s with
        script := rest
        status := statusWord bits (statusMchk s.status) (statusMset s.status) (statusTex s.status) } := by
  obtain ⟨-, rfl⟩ | ⟨a, rest, -, hact⟩ := step_idle_cases hp h
  · exact ⟨t.script, .inl ⟨t.batchOpen, rfl⟩⟩
  · refine ⟨rest, ?_⟩
    obtain ⟨-, -, rfl⟩ | ⟨-, -, rfl⟩ | ⟨words, carry, sum, -, rfl⟩ | ⟨more, -, rfl⟩ | ⟨bits, -, rfl⟩ :=
      hostAct_cases hact
    · exact .inl ⟨true, rfl⟩
    · exact .inl ⟨false, rfl⟩
    · exact .inr (.inl ⟨words, carry, sum, rfl⟩)
    · exact .inr (.inl ⟨_, _, _, rfl⟩)
    · exact .inr (.inr ⟨bits, rfl⟩)

/-- Settles O30: only the host's bits of `STATUS` can change, and `STATUS[12:0]` is written back as it was. -/
theorem registersPersistBetweenInvocations : Obligations.RegistersPersistBetweenInvocations := by
  intro s t hp h
  obtain ⟨rest, ⟨isOpen, rfl⟩ | ⟨words, carry, sum, rfl⟩ | ⟨bits, rfl⟩⟩ := step_idle_outcomes hp h
  · exact ⟨rfl, rfl, rfl, rfl, rfl⟩
  · exact ⟨rfl, rfl, rfl, rfl, rfl⟩
  · exact ⟨rfl, rfl, statusTex_statusWord .., statusMset_statusWord .., statusMchk_statusWord ..⟩

/-- Settles O51: the host's next action is `beginBatch` or `endBatch`, and this is what the two do. -/
theorem batchActionsOpenAndClose : Obligations.BatchActionsOpenAndClose :=
  fun _ _ hp => ⟨fun hs => step_of_script hp hs, fun hs => step_of_script hp hs⟩

/-- Settles O52: the fields of the word that the host's write puts together. -/
theorem hostWritesOnlyItsStatusBits : Obligations.HostWritesOnlyItsStatusBits :=
  fun _ _ _ hp hs => ⟨_, step_of_script hp hs, statusHost_statusWord .., statusTex_statusWord ..,
    statusMset_statusWord .., statusMchk_statusWord .., rfl⟩

/-! ### Command boundaries (R19, R43, R60, R99) -/

/-- Whole commands and one more are whole commands. -/
theorem WholeCommands.append {ws c : List Word} (h : WholeCommands ws) (hc : IsCommand c) :
    WholeCommands (ws ++ c) := by
  obtain ⟨cs, hcs, rfl⟩ := h
  refine ⟨cs ++ [c], ?_, by simp⟩
  simpa [or_imp, forall_and] using ⟨hcs, hc⟩

/-- A boundary is a matter of `POS` and `BUF` alone. -/
theorem AtBoundary.of_eq {s t : State} (h : AtBoundary s) (hpos : t.pos = s.pos) (hbuf : t.buf = s.buf) :
    AtBoundary t := by
  rw [AtBoundary, hpos, hbuf]
  exact h

/-- A command that completes moves `POS` past itself, to the next boundary (R99). -/
theorem AtBoundary.of_command {s t : State} {n : Nat} (h : AtBoundary s) (hf : fetch s = .command n)
    (hexec : exec (instrOf (s.commandAt n)) s = .next t) : AtBoundary t := by
  obtain ⟨hcmd, hn, hfits⟩ := isCommand_of_fetch hf
  obtain ⟨-, hwhole⟩ := h
  obtain ⟨rfl, -⟩ := exec_next hexec
  have hpos : (operation (instrOf (s.commandAt n)) s).pos + 1 + len (opcodeOf (instrOf (s.commandAt n))) =
      s.pos + (1 + n) := by
    rw [opcodeOf_instrOf hcmd, ← hn, operation_pos, Nat.add_assoc]
  simp only [AtBoundary, retire_pos, retire_buf, operation_buf, hpos]
  refine ⟨by omega, ?_⟩
  rw [take_buf_add]
  exact hwhole.append hcmd

/-- Settles O22: only a command that completes and the start of an invocation move `POS`, the one past the command, the
other to zero. -/
theorem stepKeepsCommandBoundary : Obligations.StepKeepsCommandBoundary := by
  intro s t hs h
  cases hp : s.phase with
  | idle =>
    obtain ⟨rest, ⟨isOpen, rfl⟩ | ⟨words, carry, sum, rfl⟩ | ⟨bits, rfl⟩⟩ := step_idle_outcomes hp h
    · exact hs.of_eq rfl rfl
    · exact atBoundary_of_pos_eq_zero rfl
    · exact hs.of_eq rfl rfl
  | running =>
    obtain ⟨-, rfl⟩ | ⟨-, rfl⟩ | ⟨n, hf, hexec⟩ := step_running_outcomes hp h
    · exact hs.of_eq rfl rfl
    · exact hs.of_eq rfl rfl
    · exact hs.of_command hf hexec

/-! ### The mirror in STATUS (R16, R100, R227) -/

/-- During an invocation nothing is asked of `STATUS`. -/
theorem statusMirrors_of_running {s : State} (h : s.phase = .running) : StatusMirrors s :=
  fun hidle => by simp [h] at hidle

/-- The exit write-back makes the mirror (R100). -/
theorem statusMirrors_exitInvocation (s : State) : StatusMirrors (exitInvocation s) :=
  fun _ => ⟨statusTex_statusWord .., statusMset_statusWord .., statusMchk_statusWord ..⟩

/-- Settles O24: both exits write the mirror, commands leave the block running, and the host touches neither side. -/
theorem stepKeepsStatusMirror : Obligations.StepKeepsStatusMirror := by
  intro s t hs h
  cases hp : s.phase with
  | idle =>
    obtain ⟨hregs, -, htex, hmset, hmchk⟩ := registersPersistBetweenInvocations s t hp h
    intro _
    rw [htex, hmset, hmchk, show t.texStat = s.texStat from congrArg Persistent.texStat hregs,
      show t.maskSet = s.maskSet from congrArg Persistent.maskSet hregs,
      show t.maskChk = s.maskChk from congrArg Persistent.maskChk hregs]
    exact hs hp
  | running =>
    obtain ⟨-, rfl⟩ | ⟨-, rfl⟩ | ⟨n, -, hexec⟩ := step_running_outcomes hp h
    · exact statusMirrors_exitInvocation s
    · exact statusMirrors_exitInvocation _
    · exact statusMirrors_of_running ((exec_surroundings hexec).phase.trans hp)

/-! ### What a step appends to OUT (R23, R48, R150) -/

theorem vertexRun_cons (s : State) (v : Vertex × Rgb) {rest : List (Vertex × Rgb)} (h : rest ≠ []) :
    vertexRun s (v :: rest) = vtxRecord s v.1 v.2 false :: vertexRun s rest := by
  cases rest with
  | nil => exact absurd rfl h
  | cons next rest => rfl

/-- In a run the last vertex has `eor`, and those before it do not (R157). -/
theorem vertexRun_concat (s : State) (front : List (Vertex × Rgb)) (last : Vertex × Rgb) :
    vertexRun s (front ++ [last]) =
      front.map (fun v => vtxRecord s v.1 v.2 false) ++ [vtxRecord s last.1 last.2 true] := by
  induction front with
  | nil => rfl
  | cons v front ih => rw [List.cons_append, vertexRun_cons s v (by simp), ih, List.map_cons, List.cons_append]

theorem isVertex_vtxRecord (s : State) (v : Vertex) (colour : Rgb) (eor : Bool) :
    IsVertex eor (vtxRecord s v colour eor) := ⟨_, _, _, rfl⟩

/-- A style and a run of 3, 4 or 6 vertices are one primitive (R150, R157). -/
theorem isPrimitive_primitive (s : State) (shading : Shading) {vertices : List (Vertex × Rgb)}
    (h : vertices.length = 3 ∨ vertices.length = 4 ∨ vertices.length = 6) :
    IsPrimitive (primitive s shading vertices) := by
  obtain rfl | ⟨front, last, rfl⟩ := vertices.eq_nil_or_concat'
  · simp at h
  · rw [primitive, vertexRun_concat]
    refine ⟨shading, _, _, rfl, ?_, isVertex_vtxRecord .., ?_⟩
    · simp only [List.mem_map]
      rintro _ ⟨v, -, rfl⟩
      exact isVertex_vtxRecord ..
    · simpa using h

/-- The runs of the seven drawn commands (R157, R170 to R173, R181, R182, R190). -/
theorem length_of_drawnAs {i : Instr} {shading : Shading} {vertices : List (Vertex × Rgb)}
    (h : drawnAs i = some (shading, vertices)) :
    vertices.length = 3 ∨ vertices.length = 4 ∨ vertices.length = 6 := by
  unfold drawnAs at h
  split at h <;> cases h <;> simp [lineQuad]

/-- A command appends nothing, or it is drawn and appends one primitive (R48, R150). -/
theorem emitted_eq_nil_or (i : Instr) (s : State) :
    emitted i s = [] ∨ isDrawn i = true ∧ IsPrimitive (emitted i s) := by
  rw [isDrawn_eq]
  cases h : drawnAs i with
  | none => exact .inl (by rw [emitted, h])
  | some drawn => exact .inr ⟨rfl, by rw [emitted, h]; exact isPrimitive_primitive s _ (length_of_drawnAs h)⟩

/-- Settles O28: only a command appends records, those of its primitive, and then with a batch open. -/
theorem outputIsAppendOnly : Obligations.OutputIsAppendOnly := by
  intro s t h
  have hnone (heq : t.out = s.out) :
      ∃ rs, t.out = s.out ++ rs ∧ (rs ≠ [] → s.phase = .running ∧ s.batchOpen = true ∧ IsPrimitive rs) :=
    ⟨[], by rw [heq, List.append_nil], fun hne => absurd rfl hne⟩
  cases hp : s.phase with
  | idle =>
    obtain ⟨-, hout, -⟩ := registersPersistBetweenInvocations s t hp h
    exact hp ▸ hnone hout
  | running =>
    obtain ⟨-, rfl⟩ | ⟨-, rfl⟩ | ⟨n, -, hexec⟩ := step_running_outcomes hp h
    · exact hp ▸ hnone rfl
    · exact hp ▸ hnone rfl
    · obtain ⟨rfl, hbatch⟩ := exec_next hexec
      refine ⟨emitted (instrOf (s.commandAt n)) s, by simp, fun hne => ?_⟩
      obtain hnil | ⟨hdrawn, hprim⟩ := emitted_eq_nil_or (instrOf (s.commandAt n)) s
      · exact absurd hnil hne
      · exact ⟨rfl, hbatch hdrawn, hprim⟩

/-! ### Which registers a command writes (R17) -/

@[simp] theorem operation_persistent (i : Instr) (s : State) :
    (operation i s).persistent = (registerWrites i s).persistent := rfl

/-- From registers `r` to registers `r'`, an instruction has written only those of its own opcode (R17). -/
structure WritesOwnRegisters (i : Instr) (r r' : Persistent) : Prop where
  other : isWriter i = false → r' = r
  tpage : opcodeOf i = 0xE1#8 → r' = { r with texStat := r'.texStat }
  clipTl : opcodeOf i = 0xE3#8 → r' = { r with clipX1 := r'.clipX1, clipY1 := r'.clipY1 }
  clipBr : opcodeOf i = 0xE4#8 → r' = { r with clipX2 := r'.clipX2, clipY2 := r'.clipY2 }
  drawofs : opcodeOf i = 0xE5#8 → r' = { r with ofsX := r'.ofsX, ofsY := r'.ofsY }
  maskbits : opcodeOf i = 0xE6#8 → r' = { r with maskSet := r'.maskSet, maskChk := r'.maskChk }

/-- Of the five writers each clause is true of its own, and the others have another opcode. -/
theorem registerWrites_writesOwnRegisters (i : Instr) (s : State) :
    WritesOwnRegisters i s.persistent (registerWrites i s).persistent := by
  unfold registerWrites
  split
  case h_6 => exact ⟨fun _ => rfl, fun _ => rfl, fun _ => rfl, fun _ => rfl, fun _ => rfl, fun _ => rfl⟩
  all_goals constructor <;> simp [isWriter, opcodeOf, State.persistent]

theorem exec_writesOwnRegisters {i : Instr} {s t : State} (h : exec i s = .next t) :
    WritesOwnRegisters i s.persistent t.persistent := by
  obtain ⟨rfl, -⟩ := exec_next h
  rw [retire_persistent, operation_persistent]
  exact registerWrites_writesOwnRegisters i s

/-- Settles O31: a step that does not end the invocation executes a command, and commands write only their own. -/
theorem onlyDesignatedOpcodesWrite : Obligations.OnlyDesignatedOpcodesWrite := by
  refine ⟨fun s t hp h hp' => ?_, fun i s t h => ?_⟩
  · obtain ⟨-, rfl⟩ | ⟨-, rfl⟩ | ⟨n, -, hexec⟩ := step_running_outcomes hp h
    · simp at hp'
    · simp at hp'
    · exact (exec_surroundings hexec).status
  · obtain ⟨hother, htpage, hclipTl, hclipBr, hdrawofs, hmaskbits⟩ := exec_writesOwnRegisters h
    exact ⟨(exec_surroundings h).status, hother, htpage, hclipTl, hclipBr, hdrawofs, hmaskbits⟩

end Sys2Proof.Machine
end

section
/-! PROOFS. The state (spec/10_state.md), non-interference: `OUT`, and the registers no rule reads, do not reach what a
step does. Each is one commuting lemma per operation, said of the whole outcome, faults included. -/

namespace Sys2Proof.Machine

/-- A result with its next state, where there is one, changed. -/
def mapNext (f : State → State) : Result → Result
  | .next t => .next (f t)
  | .fault r => .fault r
  | .refused r => .refused r

theorem mapNext_ite (f : State → State) (c : Prop) [Decidable c] (a b : Result) :
    mapNext f (if c then a else b) = if c then mapNext f a else mapNext f b := apply_ite ..

/-! ### OUT (R23) -/

/-- A state with another output stream. -/
def State.withOut (s : State) (out : List Record) : State := { s with out := out }

theorem retire_withOut (op : Byte) (area : Nat) (s : State) (o : List Record) :
    retire op area (s.withOut o) = (retire op area s).withOut o := by
  unfold retire account
  cases Config.acct <;> rfl

theorem operation_withOut (i : Instr) (s : State) (o : List Record) :
    operation i (s.withOut o) = (operation i s).withOut (o ++ emitted i s) := by
  have hout : emitted i (s.withOut o) = emitted i s := emitted_congr (s := s) (t := s.withOut o) rfl rfl rfl rfl i
  unfold operation
  rw [hout]
  unfold registerWrites
  split <;> rfl

/-- A command appends the same records to any stream, and otherwise does the same. -/
theorem exec_withOut (i : Instr) (s : State) (o : List Record) :
    exec i (s.withOut o) = mapNext (·.withOut (o ++ emitted i s)) (exec i s) := by
  rw [exec_eq, exec_eq, operation_withOut, retire_withOut, mapNext_ite]
  rfl

/-- The host's actions leave the stream as it is. -/
theorem hostAct_withOut (a : HostAction) (s : State) (o : List Record) :
    hostAct a (s.withOut o) = mapNext (·.withOut o) (hostAct a s) := by
  cases a with
  | beginBatch | endBatch => simp only [hostAct, mapNext_ite]; rfl
  | invoke | resume | writeStatusHost => rfl

/-- A step appends some records to whatever stream it finds, and does the same apart from that (R23). -/
theorem step_withOut (s : State) : ∃ rs, ∀ o, step (s.withOut o) = mapNext (·.withOut (o ++ rs)) (step s) := by
  cases hp : s.phase with
  | idle =>
    refine ⟨[], fun o => ?_⟩
    rw [List.append_nil]
    cases hs : s.script with
    | nil =>
      rw [step_of_idle_of_script_nil hp hs, step_of_idle_of_script_nil (s := s.withOut o) hp hs]
      rfl
    | cons a rest =>
      rw [step_of_script hp hs, step_of_script (s := s.withOut o) hp hs]
      exact hostAct_withOut a { s with script := rest } o
  | running =>
    have hrun (o : List Record) : step (s.withOut o) = stepCommand (s.withOut o) := step_of_running hp
    have hfetch (o : List Record) : fetch (s.withOut o) = fetch s := rfl
    cases hf : fetch s with
    | bufferEnd | noWord | incomplete =>
      refine ⟨[], fun o => ?_⟩
      rw [hrun, step_of_running hp, stepCommand, stepCommand, hfetch, hf, List.append_nil]
      rfl
    | command n =>
      refine ⟨emitted (instrOf (s.commandAt n)) s, fun o => ?_⟩
      rw [step_of_command hp hf, step_of_command (s := s.withOut o) hp hf]
      exact exec_withOut _ s o

/-- Settles O54: the records a step appends to its own stream are those it appends to the other. -/
theorem outputIsNeverRead : Obligations.OutputIsNeverRead := by
  intro s other
  obtain ⟨rs, hstep⟩ := step_withOut s
  have hother : step { s with out := other } = mapNext (·.withOut (other ++ rs)) (step s) := hstep other
  refine ⟨fun t h => ⟨rs, ?_, by rw [hother, h]; rfl⟩, fun f h => by rw [hother, h]; rfl⟩
  have hown : step s = mapNext (·.withOut (s.out ++ rs)) (step s) := hstep s.out
  rw [h] at hown
  injection hown with ht
  exact congrArg State.out ht

/-! ### The registers no rule reads (R13, R15, R229) -/

/-- A state whose `TEXSTAT`, bottom-right corner, mask flags and `STATUS` are those of another. -/
def State.withUnread (s u : State) : State :=
  { s with
    texStat := u.texStat
    clipX2 := u.clipX2
    clipY2 := u.clipY2
    maskSet := u.maskSet
    maskChk := u.maskChk
    status := u.status }

theorem retire_withUnread (op : Byte) (area : Nat) (s u : State) :
    retire op area (s.withUnread u) = (retire op area s).withUnread u := by
  unfold retire account
  cases Config.acct <;> rfl

theorem operation_withUnread (i : Instr) (s u : State) :
    operation i (s.withUnread u) = (operation i s).withUnread (registerWrites i (s.withUnread u)) := by
  have hout : emitted i (s.withUnread u) = emitted i s :=
    emitted_congr (s := s) (t := s.withUnread u) rfl rfl rfl rfl i
  unfold operation
  rw [hout]
  unfold registerWrites
  split <;> rfl

/-- A command may write the unread registers, and does otherwise the same whatever they hold. -/
theorem exec_withUnread (i : Instr) (s u : State) :
    exec i (s.withUnread u) = mapNext (·.withUnread (registerWrites i (s.withUnread u))) (exec i s) := by
  rw [exec_eq, exec_eq, operation_withUnread, retire_withUnread, mapNext_ite]
  rfl

theorem hostAct_withUnread (a : HostAction) (s u : State) :
    ∃ u', hostAct a (s.withUnread u) = mapNext (·.withUnread u') (hostAct a s) := by
  cases a with
  | beginBatch | endBatch => exact ⟨u, by simp only [hostAct, mapNext_ite]; rfl⟩
  | invoke | resume => exact ⟨u, rfl⟩
  | writeStatusHost bits =>
    exact ⟨{ u with status := statusWord bits (statusMchk u.status) (statusMset u.status) (statusTex u.status) }, rfl⟩

/-- A step may write the unread registers, and does otherwise the same whatever they hold. -/
theorem step_withUnread (s u : State) : ∃ u', step (s.withUnread u) = mapNext (·.withUnread u') (step s) := by
  cases hp : s.phase with
  | idle =>
    cases hs : s.script with
    | nil =>
      rw [step_of_idle_of_script_nil hp hs, step_of_idle_of_script_nil (s := s.withUnread u) hp hs]
      exact ⟨u, rfl⟩
    | cons a rest =>
      rw [step_of_script hp hs, step_of_script (s := s.withUnread u) hp hs]
      exact hostAct_withUnread a { s with script := rest } u
  | running =>
    have hfetch : fetch (s.withUnread u) = fetch s := rfl
    cases hf : fetch s with
    | bufferEnd | noWord | incomplete =>
      rw [step_of_running hp, step_of_running (s := s.withUnread u) hp, stepCommand, stepCommand, hfetch, hf]
      exact ⟨exitInvocation (s.withUnread u), rfl⟩
    | command n =>
      rw [step_of_command hp hf, step_of_command (s := s.withUnread u) hp hf]
      exact ⟨_, exec_withUnread _ s u⟩

/-- The same of any number of steps. -/
theorem run_withUnread (n : Nat) (s u : State) :
    ∃ u', run n (s.withUnread u) = mapNext (·.withUnread u') (run n s) := by
  induction n generalizing s u with
  | zero => exact ⟨u, rfl⟩
  | succ n ih =>
    obtain ⟨u', hstep⟩ := step_withUnread s u
    rw [run, run, hstep]
    cases step s with
    | next t => exact ih t u'
    | fault r => exact ⟨u, rfl⟩
    | refused r => exact ⟨u, rfl⟩

/-- Settles O33: by induction on the steps, the two runs differ in the unread registers alone. -/
theorem unreadRegistersNeverReachTheOutput : Obligations.UnreadRegistersNeverReachTheOutput := by
  intro n s t tex x2 y2 mset mchk status h
  obtain ⟨u', hrun⟩ := run_withUnread n s { s with texStat := tex, clipX2 := x2, clipY2 := y2, maskSet := mset,
                                                    maskChk := mchk, status := status }
  rw [h] at hrun
  exact ⟨t.withUnread u', hrun, rfl, rfl, rfl⟩

end Sys2Proof.Machine
end

section
/-! PROOFS. A stream stored as bytes (R42): its words are little-endian, and bytes left over are refused. -/

namespace Sys2Proof

/-- The bytes of a word, the least significant first (D20). -/
def bytesOfWord (w : Word) : List Byte :=
  [w.extractLsb' 0 8, w.extractLsb' 8 8, w.extractLsb' 16 8, w.extractLsb' 24 8]

/-- Four adjacent bytes of a word, the most significant on the left, join to the word. -/
theorem append_bytes_eq_word (w : Word) :
    w.extractLsb' 24 8 ++ w.extractLsb' 16 8 ++ w.extractLsb' 8 8 ++ w.extractLsb' 0 8 = w := by
  calc
    _ = w.extractLsb' 16 16 ++ w.extractLsb' 8 8 ++ w.extractLsb' 0 8 := by
      rw [BitVec.extractLsb'_append_extractLsb'_eq_extractLsb' (start₂ := 24) (by decide)]
    _ = w.extractLsb' 8 24 ++ w.extractLsb' 0 8 := by
      rw [BitVec.extractLsb'_append_extractLsb'_eq_extractLsb' (start₂ := 16) (by decide)]
    _ = w := BitVec.extractLsb'_append_extractLsb'

/-- Four bytes are one word on top of the words of the bytes after them. -/
theorem wordsOfBytes_four (b0 b1 b2 b3 : Byte) (rest : List Byte) :
    wordsOfBytes (b0 :: b1 :: b2 :: b3 :: rest) = ((b3 ++ b2 ++ b1 ++ b0) :: ·) <$> wordsOfBytes rest := by
  rw [wordsOfBytes]
  cases wordsOfBytes rest <;> rfl

/-- The bytes of any words read back as the words (R42). -/
theorem wordsOfBytes_flatMap_bytesOfWord (ws : List Word) : wordsOfBytes (ws.flatMap bytesOfWord) = .ok ws := by
  induction ws with
  | nil => rfl
  | cons w ws ih =>
    calc wordsOfBytes (bytesOfWord w ++ ws.flatMap bytesOfWord)
      _ = (_ :: ·) <$> wordsOfBytes (ws.flatMap bytesOfWord) := wordsOfBytes_four ..
      _ = .ok (w :: ws) := by rw [ih, append_bytes_eq_word]; rfl

/-- Bytes that are not whole words leave one to three over, which stand for no word (log 21). -/
theorem wordsOfBytes_of_length_mod_four_ne_zero :
    ∀ {bs : List Byte}, bs.length % 4 ≠ 0 → wordsOfBytes bs = .error .raggedBytes
  | [], h => absurd rfl h
  | [_], _ | [_, _], _ | [_, _, _], _ => rfl
  | b0 :: b1 :: b2 :: b3 :: rest, h => by
    have hrest : rest.length % 4 ≠ 0 := by rwa [← Nat.add_mod_right]
    rw [wordsOfBytes_four, wordsOfBytes_of_length_mod_four_ne_zero hrest]
    rfl

/-- Settles O6: by induction on the words, four bytes at a time; and what is left over of ragged bytes is refused. -/
theorem byteStreamsAreLittleEndian : Obligations.ByteStreamsAreLittleEndian := by
  refine ⟨wordsOfBytes_flatMap_bytesOfWord, fun bs h => ?_⟩
  rw [decodeBytes, wordsOfBytes_of_length_mod_four_ne_zero h]

end Sys2Proof
end

section
/-! PROOFS. Framing and reading (spec/30_encoding.md): the length table, what the decoder answers, and the one reader
each instruction has. -/

namespace Sys2Proof.Machine

/-! ### The length table (R61) -/

/-- No command has more than 15 operand words. -/
theorem len_le (op : Byte) : len op ≤ 15 := by
  have htable : ∀ n ∈ tLen, n ≤ 15 := by
    simp only [tLen, List.forall_mem_append]
    decide
  have hlt : op.toNat < tLen.length := by
    rw [opcodeMap_readsUpTo.length_eq]
    exact toNat_lt_opcodeMap_length op
  rw [len, List.getD_eq_getElem _ _ hlt]
  exact htable _ (List.getElem_mem hlt)

/-- Settles O7: the bound row by row of the table, and the fourteen entries read off it. -/
theorem lengthTableFitsThePacket : Obligations.LengthTableFitsThePacket :=
  ⟨fun op => by have := len_le op; omega, by decide⟩

/-! ### What the decoder answers (R60, R74, R95) -/

/-- A stream with enough words decodes, whatever they hold. -/
theorem decode_cons_of_le {w0 : Word} {tail : List Word} (h : 1 + len (opcodeField w0) ≤ (w0 :: tail).length) :
    decode (w0 :: tail) = .ok (instrOf ((w0 :: tail).take (1 + len (opcodeField w0))),
      (w0 :: tail).drop (1 + len (opcodeField w0))) := by
  rw [decode, if_neg (by omega), instrOf]

/-- A stream with too few words is refused, whatever they hold. -/
theorem decode_cons_of_lt {w0 : Word} {tail : List Word} (h : (w0 :: tail).length < 1 + len (opcodeField w0)) :
    decode (w0 :: tail) = .error .incomplete := by
  rw [decode, if_pos h]

/-- Settles O3: the number of words alone decides between an instruction and a refusal. -/
theorem everyOpcodeDecodes : Obligations.EveryOpcodeDecodes :=
  ⟨rfl, fun _ _ => ⟨fun h => ⟨_, _, decode_cons_of_le h⟩, decode_cons_of_lt⟩⟩

/-- A whole command in front of any words decodes to the instruction it holds and leaves those words. -/
theorem decode_append {c : List Word} (hc : IsCommand c) (rest : List Word) :
    decode (c ++ rest) = .ok (instrOf c, rest) := by
  cases c with
  | nil =>
    rw [IsCommand, List.length_nil] at hc
    omega
  | cons w0 tail =>
    rw [IsCommand, List.headD_cons] at hc
    have hle : 1 + len (opcodeField w0) ≤ (w0 :: (tail ++ rest)).length := by
      rw [← hc, ← List.cons_append, List.length_append]
      omega
    rw [List.cons_append, decode_cons_of_le hle, ← List.cons_append, List.take_left' hc, List.drop_left' hc]

/-- The words that decode to an instruction begin with the whole command that holds it. -/
theorem exists_command_of_decode {ws rest : List Word} {i : Instr} (h : decode ws = .ok (i, rest)) :
    ∃ c, ws = c ++ rest ∧ IsCommand c ∧ i = instrOf c := by
  obtain ⟨w0, tail, rfl, hlen, hi, rfl⟩ := decode_ok h
  refine ⟨(w0 :: tail).take (1 + len (opcodeField w0)), (List.take_append_drop _ _).symm, ?_, hi⟩
  rw [IsCommand, List.length_take_of_le hlen, Nat.one_add, List.take_succ_cons, List.headD_cons, Nat.one_add]

/-- Settles O5: the decoder evaluates to each of the eight answers. -/
theorem exampleWordsDecode : Obligations.ExampleWordsDecode := by
  unfold Obligations.ExampleWordsDecode
  decide

/-! ### The reader of an instruction's opcode (R73) -/

/-- How a command with the opcode of `i` is read: by its format, or as `i` itself where its format has no field. -/
def readerOf : Instr → Packet → Instr
  | .fill .. => readFill
  | .polyF3 .. => readPolyF3
  | .polyF4 .. => readPolyF4
  | .polyG3 .. => readPolyG3
  | .polyG4 .. => readPolyG4
  | .lineF2 .. => readLineF2
  | .lineG2 .. => readLineG2
  | .rectF .. => readRectF
  | .tpage .. => readTpage
  | .clipTl .. => readClipTl
  | .clipBr .. => readClipBr
  | .drawofs .. => readDrawofs
  | .maskbits .. => readMaskbits
  | i => readAck i

/-- The opcode map has at the opcode of an instruction the reader of that instruction. -/
theorem opcodeMap_opcodeOf (i : Instr) :
    opcodeMap[(opcodeOf i).toNat]'(toNat_lt_opcodeMap_length (opcodeOf i)) = readerOf i := by
  cases i <;> rfl

/-- A packet with the opcode of `i` in front is read by the reader of `i`. -/
theorem decodePacket_eq_readerOf {i : Instr} {p : Packet} (h : opcodeField p[0] = opcodeOf i) :
    decodePacket p = readerOf i p := by
  rw [decodePacket_of_opcode h, opcodeMap_opcodeOf]

/-- The encoder writes as many operand words as the opcode has. -/
theorem length_operandsOf (i : Instr) : (operandsOf i).2.length = len (opcodeOf i) := by
  cases i <;> rfl

/-- The encoding of an instruction is one whole command (R60, R77). -/
theorem isCommand_encode (i : Instr) : IsCommand (encode i) := by
  rw [IsCommand, encode, List.headD_cons, List.length_cons, length_operandsOf, Laws.Framing.opcodeField_opWord,
    Nat.add_comm]

/-- The instruction an encoding holds is what the reader of that instruction reads from it. -/
theorem instrOf_encode (i : Instr) :
    instrOf (encode i) = readerOf i (copyWords (encode i) (Vector.replicate 16 0#32)) := by
  refine decodePacket_eq_readerOf ?_
  rw [copyWords_getElem_zero (isCommand_encode i), encode, List.headD_cons, Laws.Framing.opcodeField_opWord]

end Sys2Proof.Machine
end

section
/-! PROOFS. Fields (spec/30_encoding.md, R63 to R66): what is read from a word is in range, and reading a field that the
encoder wrote gives the value back. -/

namespace Sys2Proof.Machine

/-! ### The ranges of the operands (R79) -/

theorem halfInRange_iff (n : Nat) : halfInRange n = true ↔ n ≤ 65535 := decide_eq_true_iff

theorem offsetInRange_iff (d : Int) : offsetInRange d = true ↔ -1024 ≤ d ∧ d ≤ 1023 := by
  simp only [offsetInRange, Bool.and_eq_true, decide_eq_true_eq]

theorem clipInRange_iff (x y : Nat) : clipInRange x y = true ↔ x ≤ 1023 ∧ y ≤ 511 := by
  simp only [clipInRange, Bool.and_eq_true, decide_eq_true_eq]

/-- With 16-bit coordinates configured (D5), a vertex is in range when both are signed 16-bit numbers (R64). -/
theorem vertex_wellFormed_iff (v : Vertex) :
    v.wellFormed = true ↔ (-32768 ≤ v.x ∧ v.x ≤ 32767) ∧ -32768 ≤ v.y ∧ v.y ≤ 32767 := by
  simp only [Vertex.wellFormed, Bool.and_eq_true, decide_eq_true_eq, and_assoc]
  rfl

/-! ### What a field holds is in range (R79) -/

@[simp] theorem halfInRange_lowHalf (w : Word) : halfInRange (lowHalf w) = true :=
  (halfInRange_iff _).mpr (Nat.le_of_lt_succ (w.extractLsb' 0 16).isLt)

@[simp] theorem halfInRange_highHalf (w : Word) : halfInRange (highHalf w) = true :=
  (halfInRange_iff _).mpr (Nat.le_of_lt_succ (w.extractLsb' 16 16).isLt)

@[simp] theorem offsetInRange_sext (b : BitVec 11) : offsetInRange (sext b) = true :=
  (offsetInRange_iff _).mpr ⟨b.le_toInt, b.toInt_le⟩

@[simp] theorem clipInRange_zext (x : BitVec 10) (y : BitVec 9) : clipInRange (zext x) (zext y) = true :=
  (clipInRange_iff _ _).mpr ⟨Nat.le_of_lt_succ x.isLt, Nat.le_of_lt_succ y.isLt⟩

@[simp] theorem vertexField_wellFormed (w : Word) : (vertexField w).wellFormed = true := by
  have hrange (b : BitVec 16) : -32768 ≤ sext b ∧ sext b ≤ 32767 := ⟨b.le_toInt, b.toInt_le⟩
  exact (vertex_wellFormed_iff _).mpr ⟨hrange _, hrange _⟩

/-- Whatever the packet holds, every reader assembles operands in range (R79). -/
theorem readerOf_wellFormed (i : Instr) (p : Packet) : (readerOf i p).wellFormed = true := by
  cases i with
  | fill => simp [readerOf, readFill, Instr.wellFormed]
  | polyF3 => simp [readerOf, readPolyF3, Instr.wellFormed]
  | polyF4 => simp [readerOf, readPolyF4, Instr.wellFormed]
  | polyG3 => simp [readerOf, readPolyG3, Instr.wellFormed]
  | polyG4 => simp [readerOf, readPolyG4, Instr.wellFormed]
  | lineF2 => simp [readerOf, readLineF2, Instr.wellFormed]
  | lineG2 => simp [readerOf, readLineG2, Instr.wellFormed]
  | rectF => simp [readerOf, readRectF, Instr.wellFormed]
  | tpage => exact decide_eq_true (Nat.le_of_lt_succ (p[0].extractLsb' 0 11).isLt)
  | clipTl => exact clipInRange_zext _ _
  | clipBr => exact clipInRange_zext _ _
  | drawofs => simp [readerOf, readDrawofs, Instr.wellFormed]
  | _ => rfl

/-- The instruction in any packet is well formed (R74, R79). -/
theorem decodePacket_wellFormed (p : Packet) : (decodePacket p).wellFormed = true := by
  rw [decodePacket_eq_readerOf (opcodeOf_decodePacket p).symm]
  exact readerOf_wellFormed _ p

/-- Settles O2: the words taken are the command, and its instruction has the command's opcode and operands in range. -/
theorem decodeConsumesOneCommand : Obligations.DecodeConsumesOneCommand := by
  intro ws rest i h
  obtain ⟨c, hws, hc, rfl⟩ := exists_command_of_decode h
  exact ⟨decodePacket_wellFormed _, c, hws, hc, opcodeOf_instrOf hc⟩

/-! ### Reading what the encoder wrote (R77) -/

@[simp] theorem lowHalf_halvesWord {low : Nat} (high : Nat) (h : halfInRange low = true) :
    lowHalf (halvesWord low high) = low := by
  rw [lowHalf, halvesWord, BitVec.extractLsb'_append_eq_right]
  exact Nat.mod_eq_of_lt (Nat.lt_succ_of_le ((halfInRange_iff low).mp h))

@[simp] theorem highHalf_halvesWord (low : Nat) {high : Nat} (h : halfInRange high = true) :
    highHalf (halvesWord low high) = high := by
  rw [highHalf, halvesWord, BitVec.extractLsb'_append_eq_left]
  exact Nat.mod_eq_of_lt (Nat.lt_succ_of_le ((halfInRange_iff high).mp h))

@[simp] theorem vertexField_vertexWord {v : Vertex} (h : v.wellFormed = true) : vertexField (vertexWord v) = v := by
  obtain ⟨⟨hxlo, hxhi⟩, hylo, hyhi⟩ := (vertex_wellFormed_iff v).mp h
  calc vertexField (vertexWord v)
    _ = ⟨(BitVec.ofInt 16 v.x).toInt, (BitVec.ofInt 16 v.y).toInt⟩ := by
      simp only [vertexField, Config.vtxCoordBits, rawVertex, vertexWord, sext, BitVec.extractLsb'_append_eq_right,
        BitVec.extractLsb'_append_eq_left]
    _ = v := by
      rw [BitVec.toInt_ofInt_eq_self (by decide) hxlo (Int.lt_add_one_of_le hxhi),
        BitVec.toInt_ofInt_eq_self (by decide) hylo (Int.lt_add_one_of_le hyhi)]

@[simp] theorem colourField_opWord (op : Byte) (c : Colour) : colourField (opWord op c) = c :=
  BitVec.extractLsb'_append_eq_right

@[simp] theorem colourField_colourWord (c : Colour) : colourField (colourWord c) = c :=
  BitVec.extractLsb'_append_eq_right

/-- A payload field of an opcode word is that field of the payload. -/
theorem extractLsb'_opWord (op : Byte) (payload : BitVec 24) {start len : Nat} (h : start + len ≤ 24) :
    (opWord op payload).extractLsb' start len = payload.extractLsb' start len :=
  BitVec.extractLsb'_append_eq_of_add_le h

/-- A payload bit of an opcode word is that bit of the payload. -/
theorem getLsbD_opWord (op : Byte) (payload : BitVec 24) {k : Nat} (h : k < 24) :
    (opWord op payload).getLsbD k = payload.getLsbD k := by
  rw [opWord, BitVec.getLsbD_append, if_pos h]

@[simp] theorem texpage_opWord (op : Byte) {tp : Nat} (h : tp ≤ 2047) :
    zext ((opWord op (0#13 ++ BitVec.ofNat 11 tp)).extractLsb' 0 11) = tp := by
  rw [extractLsb'_opWord _ _ (by decide), BitVec.extractLsb'_append_eq_right]
  exact Nat.mod_eq_of_lt (Nat.lt_succ_of_le h)

@[simp] theorem clipX_opWord (op : Byte) {x y : Nat} (h : clipInRange x y = true) :
    zext ((opWord op (clipPayload x y)).extractLsb' 0 10) = x := by
  rw [extractLsb'_opWord _ _ (by decide), clipPayload, BitVec.extractLsb'_append_eq_right]
  exact Nat.mod_eq_of_lt (Nat.lt_succ_of_le ((clipInRange_iff x y).mp h).1)

@[simp] theorem clipY_opWord (op : Byte) {x y : Nat} (h : clipInRange x y = true) :
    zext ((opWord op (clipPayload x y)).extractLsb' 10 9) = y := by
  rw [extractLsb'_opWord _ _ (by decide), clipPayload, BitVec.extractLsb'_append_eq_of_le (by decide),
    BitVec.extractLsb'_append_eq_right]
  exact Nat.mod_eq_of_lt (Nat.lt_succ_of_le ((clipInRange_iff x y).mp h).2)

/-- A drawing offset in range is what its 11 bits say. -/
theorem sext_ofInt {d : Int} (h : offsetInRange d = true) : sext (BitVec.ofInt 11 d) = d := by
  obtain ⟨hlo, hhi⟩ := (offsetInRange_iff d).mp h
  exact BitVec.toInt_ofInt_eq_self (by decide) hlo (Int.lt_add_one_of_le hhi)

@[simp] theorem offsetX_opWord (op : Byte) {dx : Int} (dy : Int) (h : offsetInRange dx = true) :
    sext ((opWord op (0#2 ++ BitVec.ofInt 11 dy ++ BitVec.ofInt 11 dx)).extractLsb' 0 11) = dx := by
  rw [extractLsb'_opWord _ _ (by decide), BitVec.extractLsb'_append_eq_right, sext_ofInt h]

@[simp] theorem offsetY_opWord (op : Byte) (dx : Int) {dy : Int} (h : offsetInRange dy = true) :
    sext ((opWord op (0#2 ++ BitVec.ofInt 11 dy ++ BitVec.ofInt 11 dx)).extractLsb' 11 11) = dy := by
  rw [extractLsb'_opWord _ _ (by decide), BitVec.extractLsb'_append_eq_of_le (by decide),
    BitVec.extractLsb'_append_eq_right, sext_ofInt h]

@[simp] theorem maskSet_opWord (op : Byte) (set chk : Bool) :
    (opWord op (0#22 ++ BitVec.ofBool chk ++ BitVec.ofBool set)).getLsbD 0 = set := by
  rw [getLsbD_opWord _ _ (by decide)]
  cases set <;> cases chk <;> rfl

@[simp] theorem maskChk_opWord (op : Byte) (set chk : Bool) :
    (opWord op (0#22 ++ BitVec.ofBool chk ++ BitVec.ofBool set)).getLsbD 1 = chk := by
  rw [getLsbD_opWord _ _ (by decide)]
  cases set <;> cases chk <;> rfl

/-! ### Reading back a whole command -/

/-- A command whose operands are in range is read back by its reader, whatever the packet held before the copy. -/
theorem readerOf_encode {i : Instr} (h : i.wellFormed = true) (old : Packet) :
    readerOf i (copyWords (encode i) old) = i := by
  cases i with
  | fill => simp_all [readerOf, readFill, copyWords_getElem, encode, operandsOf, Instr.wellFormed]
  | polyF3 => simp_all [readerOf, readPolyF3, copyWords_getElem, encode, operandsOf, Instr.wellFormed]
  | polyF4 => simp_all [readerOf, readPolyF4, copyWords_getElem, encode, operandsOf, Instr.wellFormed]
  | polyG3 => simp_all [readerOf, readPolyG3, copyWords_getElem, encode, operandsOf, Instr.wellFormed]
  | polyG4 => simp_all [readerOf, readPolyG4, copyWords_getElem, encode, operandsOf, Instr.wellFormed]
  | lineF2 => simp_all [readerOf, readLineF2, copyWords_getElem, encode, operandsOf, Instr.wellFormed]
  | lineG2 => simp_all [readerOf, readLineG2, copyWords_getElem, encode, operandsOf, Instr.wellFormed]
  | rectF => simp_all [readerOf, readRectF, copyWords_getElem, encode, operandsOf, Instr.wellFormed]
  | tpage => simp_all [readerOf, readTpage, copyWords_getElem, encode, operandsOf, Instr.wellFormed]
  | clipTl => simp_all [readerOf, readClipTl, copyWords_getElem, encode, operandsOf, Instr.wellFormed]
  | clipBr => simp_all [readerOf, readClipBr, copyWords_getElem, encode, operandsOf, Instr.wellFormed]
  | drawofs => simp_all [readerOf, readDrawofs, copyWords_getElem, encode, operandsOf, Instr.wellFormed]
  | maskbits => simp [readerOf, readMaskbits, copyWords_getElem, encode, operandsOf, -BitVec.getLsbD_eq_getElem]
  | _ => rfl

/-- Settles O1: an encoding is one whole command, and its instruction's reader reads the operands back. -/
theorem decodeInvertsEncode : Obligations.DecodeInvertsEncode := by
  intro i rest h
  rw [decode_append (isCommand_encode i), instrOf_encode, readerOf_encode h]

end Sys2Proof.Machine
end

section
/-! PROOFS. The bits a command is read from (spec/30_encoding.md): those a field covers (R75), and of a vertex word the
low 11 of either half when its coordinates are small (R64). -/

namespace Sys2Proof.Machine

/-! ### Packets that agree on the bits a field covers (R75) -/

/-- The packets hold the same in every bit that a field of opcode `op` covers. -/
def AgreeOnFields (op : Byte) (p q : Packet) : Prop :=
  ∀ k (h : k < 16), p[k] &&& fieldMask op k = q[k] &&& fieldMask op k

/-- Words that agree under a mask agree in every field the mask covers. -/
theorem extractLsb'_eq_of_and_eq {v w m : Word} {start len : Nat} (h : v &&& m = w &&& m)
    (hm : m.extractLsb' start len = BitVec.allOnes len) : v.extractLsb' start len = w.extractLsb' start len := by
  have hfield := congrArg (·.extractLsb' start len) h
  simpa only [BitVec.extractLsb'_and, hm, BitVec.and_allOnes] using hfield

theorem AgreeOnFields.colour {op : Byte} {p q : Packet} (h : AgreeOnFields op p q) (k : Nat) (hk : k < 16 := by decide)
    (hm : (fieldMask op k).extractLsb' 0 24 = BitVec.allOnes 24 := by decide) : colourField p[k] = colourField q[k] :=
  extractLsb'_eq_of_and_eq (h k hk) hm

/-- A word all of whose bits are covered. -/
theorem AgreeOnFields.word {op : Byte} {p q : Packet} (h : AgreeOnFields op p q) (k : Nat) (hk : k < 16 := by decide)
    (hm : fieldMask op k = BitVec.allOnes 32 := by decide) : p[k] = q[k] := by
  simpa only [hm, BitVec.and_allOnes] using h k hk

/-- A field of the opcode word's payload. -/
theorem AgreeOnFields.payload {op : Byte} {p q : Packet} (h : AgreeOnFields op p q) (start len : Nat)
    (hm : (fieldMask op 0).extractLsb' start len = BitVec.allOnes len := by decide) :
    p[0].extractLsb' start len = q[0].extractLsb' start len :=
  extractLsb'_eq_of_and_eq (h 0 (by decide)) hm

/-- A flag of the opcode word's payload. -/
theorem AgreeOnFields.flag {op : Byte} {p q : Packet} (h : AgreeOnFields op p q) (k : Nat)
    (hm : (fieldMask op 0).getLsbD k = true := by decide) : p[0].getLsbD k = q[0].getLsbD k := by
  simpa only [BitVec.getLsbD_and, hm, Bool.and_true] using congrArg (·.getLsbD k) (h 0 (by decide))

/-- `read` looks at no bit but those a field of opcode `op` covers. -/
def ReadsFields (op : Byte) (read : Packet → Instr) : Prop :=
  ∀ p q, AgreeOnFields op p q → read p = read q

theorem readFill_readsFields : ReadsFields 0x02#8 readFill := fun _ _ h => by
  simp only [readFill, h.word 1, h.word 2]

theorem readPolyF3_readsFields : ReadsFields 0x20#8 readPolyF3 := fun _ _ h => by
  simp only [readPolyF3, h.colour 0, h.word 1, h.word 2, h.word 3]

theorem readPolyF4_readsFields : ReadsFields 0x28#8 readPolyF4 := fun _ _ h => by
  simp only [readPolyF4, h.colour 0, h.word 1, h.word 2, h.word 3, h.word 4]

theorem readPolyG3_readsFields : ReadsFields 0x30#8 readPolyG3 := fun _ _ h => by
  simp only [readPolyG3, h.colour 0, h.word 1, h.colour 2, h.word 3, h.colour 4, h.word 5]

theorem readPolyG4_readsFields : ReadsFields 0x38#8 readPolyG4 := fun _ _ h => by
  simp only [readPolyG4, h.colour 0, h.word 1, h.colour 2, h.word 3, h.colour 4, h.word 5, h.colour 6, h.word 7]

theorem readLineF2_readsFields : ReadsFields 0x40#8 readLineF2 := fun _ _ h => by
  simp only [readLineF2, h.colour 0, h.word 1, h.word 2]

theorem readLineG2_readsFields : ReadsFields 0x50#8 readLineG2 := fun _ _ h => by
  simp only [readLineG2, h.colour 0, h.word 1, h.colour 2, h.word 3]

theorem readRectF_readsFields : ReadsFields 0x60#8 readRectF := fun _ _ h => by
  simp only [readRectF, h.colour 0, h.word 1, h.word 2]

theorem readTpage_readsFields : ReadsFields 0xE1#8 readTpage := fun _ _ h => by
  simp only [readTpage, h.payload 0 11]

theorem readClipTl_readsFields : ReadsFields 0xE3#8 readClipTl := fun _ _ h => by
  simp only [readClipTl, h.payload 0 10, h.payload 10 9]

theorem readClipBr_readsFields : ReadsFields 0xE4#8 readClipBr := fun _ _ h => by
  simp only [readClipBr, h.payload 0 10, h.payload 10 9]

theorem readDrawofs_readsFields : ReadsFields 0xE5#8 readDrawofs := fun _ _ h => by
  simp only [readDrawofs, h.payload 0 11, h.payload 11 11]

theorem readMaskbits_readsFields : ReadsFields 0xE6#8 readMaskbits := fun _ _ h => by
  simp only [readMaskbits, h.flag 0, h.flag 1]

/-- The reader of an instruction looks at no bit that no field of its opcode covers (R75). -/
theorem readerOf_readsFields (i : Instr) : ReadsFields (opcodeOf i) (readerOf i) := by
  cases i with
  | fill => exact readFill_readsFields
  | polyF3 => exact readPolyF3_readsFields
  | polyF4 => exact readPolyF4_readsFields
  | polyG3 => exact readPolyG3_readsFields
  | polyG4 => exact readPolyG4_readsFields
  | lineF2 => exact readLineF2_readsFields
  | lineG2 => exact readLineG2_readsFields
  | rectF => exact readRectF_readsFields
  | tpage => exact readTpage_readsFields
  | clipTl => exact readClipTl_readsFields
  | clipBr => exact readClipBr_readsFields
  | drawofs => exact readDrawofs_readsFields
  | maskbits => exact readMaskbits_readsFields
  | _ => exact fun _ _ _ => rfl

/-- Packets that agree on the covered bits hold commands of one opcode. -/
theorem AgreeOnFields.opcodeField_eq {op : Byte} {p q : Packet} (h : AgreeOnFields op p q) :
    opcodeField p[0] = opcodeField q[0] := by
  refine h.payload 24 8 ?_
  calc (0xFF000000#32 ||| payloadMask op).extractLsb' 24 8
    _ = BitVec.allOnes 8 ||| (payloadMask op).extractLsb' 24 8 := BitVec.extractLsb'_or
    _ = BitVec.allOnes 8 := BitVec.allOnes_or

/-- The instruction does not depend on the bits that no field covers. -/
theorem decodePacket_eq_of_agreeOnFields {p q : Packet} (h : AgreeOnFields (opcodeField p[0]) p q) :
    decodePacket p = decodePacket q := by
  have hp : opcodeField p[0] = opcodeOf (decodePacket p) := (opcodeOf_decodePacket p).symm
  have hq : opcodeField q[0] = opcodeOf (decodePacket p) := h.opcodeField_eq.symm.trans hp
  calc decodePacket p
    _ = readerOf (decodePacket p) p := decodePacket_eq_readerOf hp
    _ = readerOf (decodePacket p) q := readerOf_readsFields _ p q (hp ▸ h)
    _ = decodePacket q := (decodePacket_eq_readerOf hq).symm

/-- Settles O4: the readers look at covered bits only, and an operation reads the packet only through its operands. -/
theorem uncoveredBitsChangeNothing : Obligations.UncoveredBitsChangeNothing := by
  intro p q h
  have hdec : decodePacket p = decodePacket q := decodePacket_eq_of_agreeOnFields h
  refine ⟨hdec, fun s => ?_⟩
  calc exec (decodePacket p) (s.withPkt p)
    _ = exec (decodePacket q) s := by rw [hdec, exec_withPkt]
    _ = exec (decodePacket q) (s.withPkt q) := (exec_withPkt _ _ _).symm

/-! ### The two widths of a vertex coordinate (R64) -/

/-- A signed number that fits its low `n` bits is what they say. -/
theorem sext_setWidth {m n : Nat} {b : BitVec m} (hn : 0 < n) (hnm : n ≤ m) (hlo : -2 ^ (n - 1) ≤ sext b)
    (hhi : sext b < 2 ^ (n - 1)) : sext (b.setWidth n) = sext b := by
  have htrunc : b.setWidth n = BitVec.ofInt n b.toInt := by
    rw [← BitVec.signExtend_eq_setWidth_of_le _ hnm]
    rfl
  rw [sext, htrunc]
  exact BitVec.toInt_ofInt_eq_self hn hlo hhi

/-- Settles O8: either coordinate fits 11 bits, so the low 11 bits of its half-word say it all. -/
theorem vertexWidthsAgree : Obligations.VertexWidthsAgree := by
  intro w hxlo hxhi hylo hyhi
  have hfield (start : Nat) (hlo : -1024 ≤ sext (w.extractLsb' start 16))
      (hhi : sext (w.extractLsb' start 16) ≤ 1023) :
      sext (w.extractLsb' start 11) = sext (w.extractLsb' start 16) := by
    rw [← BitVec.setWidth_extractLsb'_of_le (by decide : 11 ≤ 16)]
    exact sext_setWidth (by decide) (by decide) hlo (Int.lt_add_one_of_le hhi)
  rw [rawVertex, rawVertex, hfield 0 hxlo hxhi, hfield 16 hylo hyhi]

end Sys2Proof.Machine
end

section
/-! PROOFS. The decode loop (spec/40_decode_loop.md), one step: the end of an invocation and its start, the accounting
of a command, and what a drawn command reads. -/

namespace Sys2Proof.Machine

/-! ### OUT stays a sequence of whole primitives (R105, R150) -/

/-- Whole primitives and one more are whole primitives. -/
theorem OutWellFormed.append {s t : State} {rs : List Record} (h : OutWellFormed s) (hrs : IsPrimitive rs)
    (hout : t.out = s.out ++ rs) : OutWellFormed t := by
  obtain ⟨prims, hprims, hs⟩ := h
  refine ⟨prims ++ [rs], ?_, by simp [hout, hs]⟩
  simpa [or_imp, forall_and] using ⟨hprims, hrs⟩

/-- Settles O23: a step appends nothing to `OUT`, or one primitive. -/
theorem stepKeepsOutputWellFormed : Obligations.StepKeepsOutputWellFormed := by
  intro s t hs h
  obtain ⟨rs, hout, hprim⟩ := outputIsAppendOnly s t h
  by_cases hnil : rs = []
  · rw [hnil, List.append_nil] at hout
    rwa [OutWellFormed, hout]
  · obtain ⟨-, -, hrs⟩ := hprim hnil
    exact hs.append hrs hout

/-! ### The two exits (R92, R95, R100) -/

/-- With a word at `POS` the length of its opcode alone decides between a whole command and a partial one (R94, R95). -/
theorem fetch_of_word {s : State} {w0 : Word} (h : s.buf[s.pos]? = some w0) :
    fetch s = if s.buf.length - s.pos < 1 + len (opcodeField w0) then .incomplete
      else .command (len (opcodeField w0)) := by
  obtain ⟨hlt, -⟩ := List.getElem?_eq_some_iff.mp h
  simp only [fetch, h]
  rw [if_neg (by omega)]

theorem step_of_bufferEnd {s : State} (hp : s.phase = .running) (hf : fetch s = .bufferEnd) :
    step s = .next (exitInvocation s) := by
  rw [step_of_running hp, stepCommand, hf]

theorem step_of_incomplete {s : State} (hp : s.phase = .running) (hf : fetch s = .incomplete) :
    step s = .next (stopIncomplete s) := by
  rw [step_of_running hp, stepCommand, hf]

/-- Only the end of the buffer and a partial command end an invocation, for a command leaves the block running. -/
theorem fetch_of_step_idle {s t : State} (hp : s.phase = .running) (h : step s = .next t) (ht : t.phase = .idle) :
    fetch s = .bufferEnd ∨ fetch s = .incomplete := by
  obtain ⟨hend, -⟩ | ⟨hstop, -⟩ | ⟨n, -, hexec⟩ := step_running_outcomes hp h
  · exact .inl hend
  · exact .inr hstop
  · have hrun : t.phase = .running := (exec_surroundings hexec).phase.trans hp
    rw [ht] at hrun
    cases hrun

/-- Settles O11: at `POS = N` the fetch finds the end of the buffer, and what else ends an invocation is partial. -/
theorem endOfBufferExits : Obligations.EndOfBufferExits := by
  refine ⟨fun s hp hend => ?_, fun s t hp h ht => ?_⟩
  · have hresult : (exitInvocation s).result = (s.buf.length, s.cycCarry, s.cycSum, lastOpCode s.lastOp) := by
      simp [State.result, hend]
    exact ⟨_, step_of_bufferEnd hp (fetch_bufferEnd.mpr hend), rfl, rfl, hresult, rfl, rfl, rfl, rfl, rfl, rfl, rfl⟩
  · exact (fetch_of_step_idle hp h ht).imp fetch_bufferEnd.mp fetch_incomplete

/-- Settles O12: with a word at `POS` the fetch compares the words left with the length of the opcode, and nothing
else. -/
theorem incompleteStopsBeforeTheCommand : Obligations.IncompleteStopsBeforeTheCommand := by
  intro s w0 hp hw
  have hfetch := fetch_of_word hw
  obtain ⟨hlt, -⟩ := List.getElem?_eq_some_iff.mp hw
  refine ⟨fun hshort => ?_, fun t h ht => ?_, fun hlen => ?_⟩
  · rw [if_pos hshort] at hfetch
    exact ⟨_, step_of_incomplete hp hfetch, rfl, rfl, rfl, rfl, rfl, rfl, rfl, rfl, rfl, rfl, rfl⟩
  · by_contra hwhole
    rw [if_neg hwhole] at hfetch
    obtain hend | hstop := fetch_of_step_idle hp h ht
    · cases hend.symm.trans hfetch
    · cases hstop.symm.trans hfetch
  · rw [hfetch, hlen, if_neg (by omega)]

/-- What an exit leaves for the host, whatever `LASTOP` it leaves (R100). -/
theorem exitInvocation_returns (s : State) (last : LastOp) :
    let t := exitInvocation { s with lastOp := last }
    t.phase = .idle ∧ statusTex t.status = s.texStat ∧ statusMset t.status = s.maskSet ∧
      statusMchk t.status = s.maskChk ∧ statusHost t.status = statusHost s.status ∧
      t.result = (s.pos, s.cycCarry, s.cycSum, lastOpCode t.lastOp) := by
  simp [State.result]

/-- Settles O13: the incomplete stop is the exit of the state with `LASTOP = -1`, the other that of the state itself. -/
theorem exitWritesStatusBack : Obligations.ExitWritesStatusBack := by
  rintro s hp (hend | ⟨w0, hw, hshort⟩)
  · exact ⟨_, step_of_bufferEnd hp (fetch_bufferEnd.mpr hend), exitInvocation_returns s s.lastOp⟩
  · have hstop : fetch s = .incomplete := by rw [fetch_of_word hw, if_pos hshort]
    exact ⟨_, step_of_incomplete hp hstop, exitInvocation_returns s .incomplete⟩

/-! ### The start of an invocation (R91, R103) -/

/-- Settles O14: the step is the host's next action, an invocation. -/
theorem invocationStartsAtZero : Obligations.InvocationStartsAtZero :=
  fun _ _ _ _ _ hp hs => ⟨_, step_of_script hp hs, rfl, rfl, rfl, rfl, rfl, rfl, rfl, rfl, rfl, rfl⟩

/-- The `lastOpcode` the host sees is -1 or an opcode (R20). -/
theorem lastOpCode_bounds (l : LastOp) : -1 ≤ lastOpCode l ∧ lastOpCode l ≤ 255 := by
  cases l with
  | incomplete => decide
  | opcode op =>
    have hop : op.toNat < 256 := op.isLt
    simp only [lastOpCode, zext]
    omega

theorem run_succ_of_next {n : Nat} {s t : State} (h : step s = .next t) : run (n + 1) s = run n t := by
  rw [run, h]

theorem run_one (s : State) : run 1 s = step s := by
  rw [run]
  cases step s <;> rfl

/-- Settles O15: the invocation starts at the end of its empty buffer, so the step after its start is the exit. -/
theorem emptyBufferExitsAtOnce : Obligations.EmptyBufferExitsAtOnce := by
  intro s carry sum rest hp hs
  have hstart : step s = .next (invoke [] carry sum { s with script := rest }) := step_of_script hp hs
  have hexit := step_of_bufferEnd (invoke_phase [] carry sum { s with script := rest }) (fetch_bufferEnd.mpr rfl)
  have hrun : run 2 s = .next (exitInvocation (invoke [] carry sum { s with script := rest })) := by
    rw [run_succ_of_next hstart, run_one, hexit]
  obtain ⟨hlow, hhigh⟩ := lastOpCode_bounds (Config.freeLastOp s.draws)
  obtain ⟨hidle, htex, hmset, hmchk, hhost, hresult⟩ :=
    exitInvocation_returns (invoke [] carry sum { s with script := rest }) (Config.freeLastOp s.draws)
  exact ⟨_, _, hrun, hidle, hresult, hlow, hhigh, htex, hmset, hmchk, hhost, rfl, rfl⟩

/-! ### The accounting and the advance of a command (R97 to R99) -/

/-- Under DIRECT the costs add up in `CYC_SUM`, and nothing else changes. -/
theorem foldl_account_direct (ks : List Nat) (s : State) :
    ks.foldl (fun u k => account .direct k u) s = { s with cycSum := s.cycSum + (ks.sum : Int) } := by
  induction ks generalizing s with
  | nil => simp
  | cons k ks ih =>
    rw [List.foldl_cons, ih, List.sum_cons, Nat.cast_add, ← add_assoc]
    rfl

/-- Under DEFERRED the costs add up in the two counters together: a cost only waits in `CYC_CARRY`. -/
theorem foldl_account_deferred (ks : List Nat) (s : State) :
    (ks.foldl (fun u k => account .deferred k u) s).cycSum +
      (ks.foldl (fun u k => account .deferred k u) s).cycCarry = s.cycSum + s.cycCarry + (ks.sum : Int) := by
  induction ks generalizing s with
  | nil => simp
  | cons k ks ih =>
    rw [List.foldl_cons, ih, List.sum_cons, Nat.cast_add, ← add_assoc]
    rfl

/-- Settles O16: by induction on the costs; under DEFERRED the last one is pending, the others have been added. -/
theorem accountingSchemesAddUp : Obligations.AccountingSchemesAddUp := by
  refine ⟨fun ks s => ?_, fun ks k s => ?_⟩
  · rw [foldl_account_direct]
    exact ⟨rfl, rfl, foldl_account_deferred ks s⟩
  · rw [List.foldl_append]
    exact ⟨foldl_account_deferred ks s, rfl⟩

/-- A command that completes has been consumed with its own opcode and area (R98, R99). -/
theorem exec_consumed {i : Instr} {s t : State} (h : exec i s = .next t) : Consumed (opcodeOf i) (areaOf i) s t := by
  have haround := exec_surroundings h
  obtain ⟨rfl, -⟩ := exec_next h
  obtain ⟨hpos, hlast, hcycles, -⟩ := retire_consumed (opcodeOf i) (areaOf i) (operation i s)
  exact ⟨by rw [hpos, operation_pos], hlast, by simpa [Accounted] using hcycles, haround⟩

/-- FILL alone has an area (R97). -/
theorem areaOf_of_opcode_ne_fill {i : Instr} (h : opcodeOf i ≠ 0x02#8) : areaOf i = 0 := by
  unfold areaOf
  split
  · exact absurd rfl h
  · rfl

/-- Settles O17: a command is consumed with its area, which is FILL's own or 0. -/
theorem executedCommandIsConsumed : Obligations.ExecutedCommandIsConsumed := by
  intro i s t h
  refine ⟨?_, fun hop => areaOf_of_opcode_ne_fill hop ▸ exec_consumed h⟩
  rintro x y w h' rfl
  exact exec_consumed h

/-! ### What a drawn command reads (R160) -/

/-- A drawn opcode is neither a writer's nor FILL's (R73). -/
theorem not_writer_of_isDrawn {i : Instr} (h : isDrawn i = true) : isWriter i = false ∧ opcodeOf i ≠ 0x02#8 := by
  have hdrawn : ∀ op ∈ [0x20#8, 0x28#8, 0x30#8, 0x38#8, 0x40#8, 0x50#8, 0x60#8],
      [0xE1#8, 0xE3#8, 0xE4#8, 0xE5#8, 0xE6#8].contains op = false ∧ op ≠ 0x02#8 := by decide
  exact hdrawn _ (List.contains_iff_mem.mp h)

/-- Settles O46: a drawn command is no writer and has no area, and its records come from the transform alone. -/
theorem drawnCommandsReadOnlyTheTransform : Obligations.DrawnCommandsReadOnlyTheTransform := by
  intro i s s' t hdrawn hx hy hox hoy hbatch h
  obtain ⟨hwriter, hfill⟩ := not_writer_of_isDrawn hdrawn
  refine ⟨(exec_writesOwnRegisters h).other hwriter, areaOf_of_opcode_ne_fill hfill ▸ exec_consumed h, ?_⟩
  obtain ⟨rfl, hopen⟩ := exec_next h
  refine ⟨_, emitted i s, exec_completes fun _ => hbatch.trans (hopen hdrawn), by simp, ?_⟩
  rw [retire_out, operation_out, emitted_congr hx hy hox hoy]

end Sys2Proof.Machine
end

section
/-! PROOFS. The decode loop (spec/40_decode_loop.md), whole invocations: they end, they execute whole commands in order,
and a command cut in two and resumed has the effect of the whole stream. -/

namespace Sys2Proof.Machine

/-! ### Progress (R104) -/

/-- A command that completes moves `POS` past itself, within the buffer (R95, R99). -/
theorem pos_of_command {s t : State} {n : Nat} (hf : fetch s = .command n)
    (hexec : exec (instrOf (s.commandAt n)) s = .next t) : t.pos = s.pos + 1 + n ∧ t.pos ≤ s.buf.length := by
  obtain ⟨hcmd, hn, hfits⟩ := isCommand_of_fetch hf
  have hpos := (exec_consumed hexec).pos
  rw [opcodeOf_instrOf hcmd, ← hn] at hpos
  exact ⟨hpos, hpos ▸ hfits⟩

/-- A step that does not end the invocation moves `POS` up, within the buffer. -/
theorem step_progress {s t : State} (hp : s.phase = .running) (h : step s = .next t) (ht : t.phase = .running) :
    s.pos < t.pos ∧ t.pos ≤ t.buf.length := by
  obtain ⟨-, rfl⟩ | ⟨-, rfl⟩ | ⟨n, hf, hexec⟩ := step_running_outcomes hp h
  · simp at ht
  · simp at ht
  · obtain ⟨hpos, hle⟩ := pos_of_command hf hexec
    exact ⟨by omega, (exec_surroundings hexec).buf ▸ hle⟩

/-- With a batch open every step within an invocation completes (R203, R204). -/
theorem step_completes {s : State} (hp : s.phase = .running) (hle : s.pos ≤ s.buf.length)
    (hb : s.batchOpen = true) : ∃ t, step s = .next t := by
  cases hf : fetch s with
  | bufferEnd => exact ⟨_, step_of_bufferEnd hp hf⟩
  | noWord => exact absurd hf (fetch_ne_noWord hle)
  | incomplete => exact ⟨_, step_of_incomplete hp hf⟩
  | command n => exact ⟨_, (step_of_command hp hf).trans (exec_completes fun _ => hb)⟩

/-- The invocation is over at most one step after `POS` can go no further. -/
theorem exists_run_idle (s : State) (hp : s.phase = .running) (hle : s.pos ≤ s.buf.length)
    (hb : s.batchOpen = true) : ∃ k t, k ≤ s.buf.length - s.pos + 1 ∧ run k s = .next t ∧ t.phase = .idle := by
  obtain ⟨t, h⟩ := step_completes hp hle hb
  cases ht : t.phase with
  | idle => exact ⟨1, t, by omega, by rw [run_one, h], ht⟩
  | running =>
    obtain ⟨hlt, hle'⟩ := step_progress hp h ht
    obtain ⟨-, hbatch, hbuf, -⟩ := hostWaitsDuringInvocation s t hp h
    have hlen : t.buf.length = s.buf.length := congrArg List.length hbuf
    obtain ⟨k, u, hk, hrun, hu⟩ := exists_run_idle t ht hle' (hbatch.trans hb)
    exact ⟨k + 1, u, by omega, by rw [run_succ_of_next h, hrun], hu⟩
termination_by s.buf.length - s.pos

/-- Settles O18: by induction on the words left, each step that does not end the invocation consumes some of them. -/
theorem invocationEnds : Obligations.InvocationEnds :=
  ⟨fun _ _ => step_progress, exists_run_idle⟩

/-! ### Whole commands are executed in order (R47, R101) -/

/-- A run goes on from the state its first steps reach. -/
theorem run_add_of_next {m n : Nat} {s t : State} (h : run m s = .next t) : run (m + n) s = run n t := by
  induction m generalizing s with
  | zero =>
    cases h
    rw [Nat.zero_add]
  | succ m ih =>
    rw [run] at h
    rw [Nat.add_right_comm, run]
    cases hs : step s with
    | next u => rw [hs] at h; exact ih h
    | fault r => rw [hs] at h; cases h
    | refused r => rw [hs] at h; cases h

/-- The opcode a whole command shows is the one it is consumed with (R60, R99). -/
theorem exec_instrOf_consumed {c : List Word} {s t : State} (hc : IsCommand c) (h : exec (instrOf c) s = .next t) :
    SameSurroundings s t ∧ t.pos = s.pos + c.length ∧ t.lastOp = .opcode (opcodeField (c.headD 0)) := by
  obtain ⟨hpos, hlast, -, haround⟩ := exec_consumed h
  rw [opcodeOf_instrOf hc] at hpos hlast
  exact ⟨haround, by rw [hpos, hc, Nat.add_assoc], hlast⟩

theorem SameSurroundings.refl (s : State) : SameSurroundings s s := ⟨rfl, rfl, rfl, rfl, rfl⟩

theorem SameSurroundings.trans {s t u : State} (h : SameSurroundings s t) (h' : SameSurroundings t u) :
    SameSurroundings s u :=
  ⟨h'.status.trans h.status, h'.buf.trans h.buf, h'.batchOpen.trans h.batchOpen, h'.phase.trans h.phase,
    h'.script.trans h.script⟩

/-- Whole commands, executed one after the other, are consumed exactly, and the last leaves its opcode (R99). -/
theorem execAll_consumed {cs : List (List Word)} {s t : State} (hcs : ∀ c ∈ cs, IsCommand c)
    (h : execAll (cs.map instrOf) s = .next t) :
    SameSurroundings s t ∧ t.pos = s.pos + cs.flatten.length ∧
      t.lastOp = (cs.getLast?.map fun c => .opcode (opcodeField (c.headD 0))).getD s.lastOp := by
  induction cs generalizing s with
  | nil =>
    cases h
    exact ⟨.refl _, rfl, rfl⟩
  | cons c cs ih =>
    obtain ⟨hc, hrest⟩ := List.forall_mem_cons.mp hcs
    rw [List.map_cons, execAll] at h
    cases hexec : exec (instrOf c) s with
    | fault r => rw [hexec] at h; cases h
    | refused r => rw [hexec] at h; cases h
    | next u =>
      rw [hexec] at h
      obtain ⟨haround, hpos, hlast⟩ := exec_instrOf_consumed hc hexec
      obtain ⟨haround', hpos', hlast'⟩ := ih hrest h
      refine ⟨haround.trans haround', ?_, ?_⟩
      · rw [hpos', hpos, List.flatten_cons, List.length_append, Nat.add_assoc]
      · rw [hlast', hlast, List.getLast?_cons]
        cases cs.getLast? <;> rfl

/-- With a batch open every sequence of instructions completes. -/
theorem execAll_completes (is : List Instr) {s : State} (hb : s.batchOpen = true) :
    ∃ t, execAll is s = .next t := by
  induction is generalizing s with
  | nil => exact ⟨s, rfl⟩
  | cons i is ih =>
    have hexec := exec_completes (i := i) (s := s) fun _ => hb
    obtain ⟨t, ht⟩ := ih ((exec_surroundings hexec).batchOpen.trans hb)
    exact ⟨t, by rw [execAll, hexec, ← ht]⟩

/-- Where the words from `POS` on begin with whole commands, as many steps execute them (R47). -/
theorem run_commands {cs : List (List Word)} {s : State} {rest : List Word} (hp : s.phase = .running)
    (hcs : ∀ c ∈ cs, IsCommand c) (hws : s.unconsumed = cs.flatten ++ rest) :
    run cs.length s = execAll (cs.map instrOf) s := by
  induction cs generalizing s with
  | nil => rfl
  | cons c cs ih =>
    obtain ⟨hc, hcs'⟩ := List.forall_mem_cons.mp hcs
    rw [List.flatten_cons, List.append_assoc] at hws
    have hdec : decode (s.buf.drop s.pos) = .ok (instrOf c, cs.flatten ++ rest) := by
      rw [← State.unconsumed, hws, decode_append hc]
    rw [List.length_cons, run, List.map_cons, execAll, (stepRunsTheDecodedInstruction s _ _ hp hdec).2]
    cases hexec : exec (instrOf c) s with
    | fault r => rfl
    | refused r => rfl
    | next t =>
      obtain ⟨haround, hpos, -⟩ := exec_instrOf_consumed hc hexec
      have hrest : t.unconsumed = cs.flatten ++ rest := by
        rw [State.unconsumed, haround.buf, hpos, ← List.drop_drop, ← State.unconsumed, hws, List.drop_left]
      exact ih (haround.phase.trans hp) hcs' hrest

/-- The steps over whole commands complete with a batch open, and leave the words after the commands. -/
theorem exists_run_commands {cs : List (List Word)} {s : State} {rest : List Word} (hp : s.phase = .running)
    (hle : s.pos ≤ s.buf.length) (hb : s.batchOpen = true) (hcs : ∀ c ∈ cs, IsCommand c)
    (hws : s.unconsumed = cs.flatten ++ rest) :
    ∃ t, execAll (cs.map instrOf) s = .next t ∧ run cs.length s = .next t ∧ SameSurroundings s t ∧
      t.pos = s.buf.length - rest.length ∧ t.unconsumed = rest := by
  obtain ⟨t, ht⟩ := execAll_completes (cs.map instrOf) hb
  obtain ⟨haround, hpos, -⟩ := execAll_consumed hcs ht
  have hlen := congrArg List.length hws
  rw [State.unconsumed, List.length_drop, List.length_append] at hlen
  refine ⟨t, ht, (run_commands hp hcs hws).trans ht, haround, by omega, ?_⟩
  rw [State.unconsumed, haround.buf, hpos, ← List.drop_drop, ← State.unconsumed, hws, List.drop_left]

/-- Settles O19: the commands are executed by induction on their list, and the step after them finds `POS = N`. -/
theorem completeBufferIsConsumed : Obligations.CompleteBufferIsConsumed := by
  intro s cs hp hle hcs hws
  have hws' : s.unconsumed = cs.flatten ++ [] := hws.trans (List.append_nil _).symm
  refine ⟨run_commands hp hcs hws', fun hb => ?_⟩
  obtain ⟨t, hexec, hrun, haround, hpos, -⟩ := exists_run_commands hp hle hb hcs hws'
  obtain ⟨-, -, hlast⟩ := execAll_consumed hcs hexec
  have hend : fetch t = .bufferEnd := fetch_bufferEnd.mpr (hpos.trans (congrArg List.length haround.buf.symm))
  refine ⟨exitInvocation t, ?_, rfl, hpos, fun c hc => ?_⟩
  · rw [run_add_of_next hrun, run_one, step_of_bufferEnd (haround.phase.trans hp) hend]
  · rw [exitInvocation_lastOp, hlast, hc]
    rfl

/-! ### The same commands read from another place (R102, R208)

What a run does depends on the words from `POS` on, and not on where in which buffer they stand. Two states that differ
in this are compared as in the non-interference proofs, by one commuting lemma per operation. -/

/-- A state whose buffer, place in it, `LASTOP`, `PKT`, `STATUS` and free values are those of another. -/
def State.withStream (s u : State) : State :=
  { s with
    buf := u.buf
    pos := u.pos
    lastOp := u.lastOp
    pkt := u.pkt
    status := u.status
    draws := u.draws }

/-- Both states stand at the same words, and their `STATUS` agrees as far as it will be read. -/
structure SameStream (s u : State) : Prop where
  words : u.unconsumed = s.unconsumed
  pos_le : s.pos ≤ s.buf.length
  pos_le' : u.pos ≤ u.buf.length
  hostBits : statusHost u.status = statusHost s.status
  status : s.phase = .idle → u.status = s.status

theorem retire_withStream (op : Byte) (area : Nat) (s u : State) :
    retire op area (s.withStream u) = (retire op area s).withStream (retire op area u) := by
  unfold retire account
  cases Config.acct <;> rfl

theorem operation_withStream (i : Instr) (s u : State) :
    operation i (s.withStream u) = (operation i s).withStream u := by
  have hout : emitted i (s.withStream u) = emitted i s :=
    emitted_congr (s := s) (t := s.withStream u) rfl rfl rfl rfl i
  unfold operation
  rw [hout]
  unfold registerWrites
  split <;> rfl

/-- A command does the same wherever it stands, and advances there by as much. -/
theorem exec_withStream (i : Instr) (s u : State) :
    exec i (s.withStream u) = mapNext (·.withStream (retire (opcodeOf i) (areaOf i) u)) (exec i s) := by
  rw [exec_eq, exec_eq, operation_withStream, retire_withStream, mapNext_ite]
  rfl

theorem execAll_withStream (is : List Instr) (s u : State) :
    ∃ u', execAll is (s.withStream u) = mapNext (·.withStream u') (execAll is s) := by
  induction is generalizing s u with
  | nil => exact ⟨u, rfl⟩
  | cons i is ih =>
    rw [execAll, execAll, exec_withStream]
    cases exec i s with
    | next t => exact ih t _
    | fault r => exact ⟨u, rfl⟩
    | refused r => exact ⟨u, rfl⟩

/-- The fetch looks at the words from `POS` on alone (R92 to R95). -/
theorem SameStream.fetch_eq {s u : State} (h : SameStream s u) : fetch u = fetch s := by
  have hword : u.buf[u.pos]? = s.buf[s.pos]? := by
    rw [← List.head?_drop, ← List.head?_drop, ← State.unconsumed, ← State.unconsumed, h.words]
  have hlen : u.buf.length - u.pos = s.buf.length - s.pos := by
    rw [← List.length_drop, ← List.length_drop, ← State.unconsumed, ← State.unconsumed, h.words]
  have hend : (u.pos = u.buf.length) = (s.pos = s.buf.length) := by
    have := h.pos_le
    have := h.pos_le'
    exact propext (by omega)
  unfold fetch
  simp only [hword, hlen, hend]

/-- A command leaves both states at the words after it. -/
theorem SameStream.of_command {s t u : State} {n : Nat} (h : SameStream s u) (hf : fetch s = .command n)
    (hexec : exec (instrOf (s.commandAt n)) s = .next t) :
    SameStream t (retire (opcodeOf (instrOf (s.commandAt n))) (areaOf (instrOf (s.commandAt n))) u) := by
  obtain ⟨hcmd, hn, -⟩ := isCommand_of_fetch hf
  obtain ⟨-, -, hfits⟩ := isCommand_of_fetch (h.fetch_eq.trans hf)
  obtain ⟨hpos, hle⟩ := pos_of_command hf hexec
  obtain ⟨hstatus, hbuf, -, hphase, -⟩ := exec_surroundings hexec
  have hlen : len (opcodeOf (instrOf (s.commandAt n))) = n := by rw [opcodeOf_instrOf hcmd, ← hn]
  refine ⟨?_, hbuf ▸ hle, by simpa [hlen] using hfits, by simpa [hstatus] using h.hostBits, ?_⟩
  · have hdrop := congrArg (List.drop (1 + n)) h.words
    simpa [State.unconsumed, hlen, hbuf, hpos, Nat.add_assoc] using hdrop
  · rw [hphase, hstatus, retire_status]
    exact h.status

/-- Two outcomes that differ in the stream alone: the same stop, or next states at the same words. -/
inductive SameOutcome : Result → Result → Prop
  | next {s u : State} (h : SameStream s u) : SameOutcome (.next s) (.next (s.withStream u))
  | fault (r : Fault) : SameOutcome (.fault r) (.fault r)
  | refused (r : Refusal) : SameOutcome (.refused r) (.refused r)

theorem SameOutcome.exists_next {s : State} {r : Result} (h : SameOutcome (.next s) r) :
    ∃ u, r = .next (s.withStream u) ∧ SameStream s u := by
  cases h with
  | next hsame => exact ⟨_, rfl, hsame⟩

/-- An invocation on the same words starts with the same stream (R91). -/
theorem SameStream.invoke {s u : State} (h : SameStream s u) {words words' : List Word} (hw : words' = words)
    (carry sum : Int) :
    SameStream (invoke words carry sum s) (invoke words' carry sum (s.withStream u)) :=
  ⟨hw, Nat.zero_le _, Nat.zero_le _, h.hostBits, nofun⟩

/-- Either exit writes `STATUS` alike, since it keeps the host's bits and takes the others from the registers (R100). -/
theorem exitInvocation_withStream {s u : State} (h : SameStream s u) :
    SameOutcome (.next (exitInvocation s)) (.next (exitInvocation (s.withStream u))) := by
  have hstatus : (exitInvocation (s.withStream u)).status = (exitInvocation s).status :=
    congrArg (statusWord · s.maskChk s.maskSet s.texStat) h.hostBits
  exact .next (u := exitInvocation (s.withStream u))
    ⟨h.words, h.pos_le, h.pos_le', congrArg statusHost hstatus, fun _ => hstatus⟩

/-- The host's actions read the words left and `STATUS`, in which the states agree while idle (R208, R210). -/
theorem hostAct_withStream {s u : State} (h : SameStream s u) (hp : s.phase = .idle) (a : HostAction) :
    SameOutcome (hostAct a s) (hostAct a (s.withStream u)) := by
  have hopen (isOpen : Bool) : SameStream { s with batchOpen := isOpen } u :=
    ⟨h.words, h.pos_le, h.pos_le', h.hostBits, h.status⟩
  cases a with
  | beginBatch =>
    cases hb : s.batchOpen <;> simp only [hostAct, State.withStream, hb]
    · exact .next (hopen true)
    · exact .fault _
  | endBatch =>
    cases hb : s.batchOpen <;> simp only [hostAct, State.withStream, hb]
    · exact .fault _
    · exact .next (hopen false)
  | invoke words carry sum => exact .next (h.invoke rfl carry sum)
  | resume more =>
    exact .next (h.invoke (congrArg (· ++ more) h.words) s.cycCarry s.cycSum)
  | writeStatusHost bits =>
    refine .next (u := { u with
      status := statusWord bits (statusMchk u.status) (statusMset u.status) (statusTex u.status) }) ?_
    have hword := h.status hp
    exact ⟨h.words, h.pos_le, h.pos_le', by rw [hword], fun _ => by rw [hword]⟩

/-- A step does the same wherever the words from `POS` on stand (R92 to R100). -/
theorem step_withStream {s u : State} (h : SameStream s u) : SameOutcome (step s) (step (s.withStream u)) := by
  cases hp : s.phase with
  | idle =>
    cases hs : s.script with
    | nil =>
      rw [step_of_idle_of_script_nil hp hs, step_of_idle_of_script_nil (s := s.withStream u) hp hs]
      exact .next h
    | cons a rest =>
      have h' : SameStream { s with script := rest } u := ⟨h.words, h.pos_le, h.pos_le', h.hostBits, h.status⟩
      rw [step_of_script hp hs, step_of_script (s := s.withStream u) hp hs]
      exact hostAct_withStream h' hp a
  | running =>
    have hp' : (s.withStream u).phase = .running := hp
    have hfetch : fetch (s.withStream u) = fetch s := h.fetch_eq
    cases hf : fetch s with
    | bufferEnd =>
      rw [step_of_bufferEnd hp hf, step_of_bufferEnd hp' (hfetch.trans hf)]
      exact exitInvocation_withStream h
    | noWord => exact absurd hf (fetch_ne_noWord h.pos_le)
    | incomplete =>
      rw [step_of_incomplete hp hf, step_of_incomplete hp' (hfetch.trans hf)]
      have h' : SameStream { s with lastOp := .incomplete } { u with lastOp := .incomplete } :=
        ⟨h.words, h.pos_le, h.pos_le', h.hostBits, h.status⟩
      exact exitInvocation_withStream h'
    | command n =>
      have hcmd : (s.withStream u).commandAt n = s.commandAt n := congrArg (List.take (1 + n)) h.words
      rw [step_of_command hp hf, step_of_command hp' (hfetch.trans hf), hcmd, exec_withStream]
      cases hexec : exec (instrOf (s.commandAt n)) s with
      | next t => exact .next (h.of_command hf hexec)
      | fault r => exact .fault r
      | refused r => exact .refused r

/-- The same of any number of steps. -/
theorem run_withStream {s u : State} (h : SameStream s u) (n : Nat) :
    SameOutcome (run n s) (run n (s.withStream u)) := by
  induction n generalizing s u with
  | zero => exact .next h
  | succ n ih =>
    have hstep := step_withStream h
    rw [run, run]
    generalize step s = r, step (s.withStream u) = r' at hstep ⊢
    cases hstep with
    | next hsame => exact ih hsame
    | fault r => exact .fault r
    | refused r => exact .refused r

/-! ### A command cut in two (R95, R102, R208) -/

/-- A proper first part of a command is found partial. -/
theorem fetch_of_partial {s : State} {part missing : List Word} (hws : s.unconsumed = part) (hpart : part ≠ [])
    (hmissing : missing ≠ []) (hcmd : IsCommand (part ++ missing)) : fetch s = .incomplete := by
  obtain ⟨w0, tail, rfl⟩ := List.exists_cons_of_ne_nil hpart
  have hw : s.buf[s.pos]? = some w0 := by
    rw [← List.head?_drop, ← State.unconsumed, hws, List.head?_cons]
  have hlen : s.buf.length - s.pos = (w0 :: tail).length := by
    rw [← List.length_drop, ← State.unconsumed, hws]
  have hpos : 0 < missing.length := List.length_pos_iff.mpr hmissing
  rw [IsCommand, List.cons_append, List.headD_cons, ← List.cons_append, List.length_append] at hcmd
  rw [fetch_of_word hw, if_pos (by omega)]

/-- The resumed state is the one that stopped, but for its stream. -/
theorem resume_stopIncomplete_withStream {s : State} (hp : s.phase = .running) (more : List Word) (u : State) :
    (resume more (stopIncomplete s)).withStream u = s.withStream u := by
  cases s
  cases hp
  rfl

/-- Resumed with `ws`, the block stands at the words of a buffer that held `ws` from the start. -/
theorem sameStream_resume {s t : State} {ws : List Word} (hws : t.unconsumed = s.unconsumed ++ ws)
    (hle : t.pos ≤ t.buf.length) (hstatus : t.status = s.status) :
    SameStream (resume ws (stopIncomplete s)) t where
  words := hws
  pos_le := Nat.zero_le _
  pos_le' := hle
  hostBits := (congrArg statusHost hstatus).trans (statusHost_statusWord ..).symm
  status := nofun

/-- A state with another command buffer. -/
def State.withBuf (s : State) (buf : List Word) : State := { s with buf := buf }

/-- Words added at the end of the buffer stand after those left. -/
theorem unconsumed_withBuf_append {s : State} (hle : s.pos ≤ s.buf.length) (ws : List Word) :
    (s.withBuf (s.buf ++ ws)).unconsumed = s.unconsumed ++ ws :=
  List.drop_append_of_le_length hle

/-- Settles O20: after the whole commands the resumed block and the one on the whole stream stand at the same words. -/
theorem partialCommandResumes : Obligations.PartialCommandResumes := by
  intro s cs part missing more hp hle hb hcs hpart hmissing hcmd hws
  obtain ⟨t, hexec, hrun, haround, hpos, hrest⟩ := exists_run_commands hp hle hb hcs hws
  have ht : t.phase = .running := haround.phase.trans hp
  have hstop : fetch t = .incomplete := fetch_of_partial hrest hpart hmissing hcmd
  refine ⟨stopIncomplete t, ?_, rfl, hpos, rfl, fun k u hk => ?_⟩
  · rw [run_add_of_next hrun, run_one, step_of_incomplete ht hstop]
  · rw [List.append_assoc s.buf]
    have hle' : s.pos ≤ (s.buf ++ (missing ++ more)).length := by
      rw [List.length_append]
      omega
    have hws' : (s.withBuf (s.buf ++ (missing ++ more))).unconsumed = cs.flatten ++ (part ++ (missing ++ more)) := by
      rw [unconsumed_withBuf_append hle, State.unconsumed, hws, List.append_assoc]
    obtain ⟨t', hexec', hrun', haround', hpos', hrest'⟩ :=
      exists_run_commands (s := s.withBuf (s.buf ++ (missing ++ more))) hp hle' hb hcs hws'
    obtain ⟨w, hw⟩ := execAll_withStream (cs.map instrOf) s (s.withBuf (s.buf ++ (missing ++ more)))
    have ht' : t' = t.withStream w := by
      rw [hexec] at hw
      exact Host.Outcome.next.inj (hexec'.symm.trans hw)
    have hle'' : t'.pos ≤ t'.buf.length := by
      rw [hpos', haround'.buf]
      exact Nat.sub_le _ _
    have hsame : SameStream (resume (missing ++ more) (stopIncomplete t)) t' :=
      sameStream_resume (by rw [hrest', hrest]) hle'' (haround'.status.trans haround.status.symm)
    have hout := run_withStream hsame k
    rw [hk, resume_stopIncomplete_withStream ht] at hout
    obtain ⟨v, hv, hsv⟩ := hout.exists_next
    refine ⟨u.withStream v, ?_, rfl, rfl, rfl, rfl, rfl, hsv.status⟩
    calc run (cs.length + k) (s.withBuf (s.buf ++ (missing ++ more)))
      _ = run k t' := run_add_of_next hrun'
      _ = run k (t.withStream t') := by rw [ht']; rfl
      _ = .next (u.withStream v) := hv

end Sys2Proof.Machine
end

section
/-! PROOFS. The commands that draw nothing (spec/41_transfer_fill_nop.md): an undrawn command leaves `OUT`, and one that
writes no register either is consumed with its area, which is all FILL and the acknowledged commands do. -/

namespace Sys2Proof.Machine

/-! ### A command that is not drawn (R110 to R114, R131, R174, R183, R191) -/

/-- Only a drawn command has records to append (R150). -/
theorem emitted_of_not_drawn {i : Instr} (hd : isDrawn i = false) (s : State) : emitted i s = [] :=
  (emitted_eq_nil_or i s).resolve_right fun ⟨hdrawn, _⟩ => Bool.false_ne_true (hd.symm.trans hdrawn)

/-- Settles O55: a completed command has appended what it emits, which is nothing. -/
theorem onlyDrawnCommandsEmit : Obligations.OnlyDrawnCommandsEmit := by
  intro i s t hd h
  obtain ⟨rfl, -⟩ := exec_next h
  rw [retire_out, operation_out, emitted_of_not_drawn hd, List.append_nil]

/-! ### A command that writes no register either (R17, R98, R99) -/

/-- With no batch needed (R158) such a command completes, and all it does is to be consumed. -/
theorem exec_onlyConsumes {i : Instr} (hd : isDrawn i = false) (hw : isWriter i = false) (s : State) :
    ∃ t, exec i s = .next t ∧ Consumed (opcodeOf i) (areaOf i) s t ∧ t.persistent = s.persistent ∧ t.out = s.out := by
  have hexec := exec_completes (s := s) fun hdrawn => absurd (hd.symm.trans hdrawn) Bool.false_ne_true
  exact ⟨_, hexec, exec_consumed hexec, (exec_writesOwnRegisters hexec).other hw, onlyDrawnCommandsEmit i s _ hd hexec⟩

/-- The acknowledged commands are those outside the three other classes (R73). -/
theorem isAcknowledged_iff (i : Instr) :
    isAcknowledged i = true ↔ isDrawn i = false ∧ isWriter i = false ∧ opcodeOf i ≠ 0x02#8 := by
  simp [isAcknowledged, and_assoc]

/-- Settles O34: an acknowledged command is neither drawn nor a writer, and it has no area. -/
theorem acknowledgedCommandsOnlyAdvance : Obligations.AcknowledgedCommandsOnlyAdvance := by
  intro i s hack
  obtain ⟨hd, hw, hfill⟩ := (isAcknowledged_iff i).mp hack
  exact areaOf_of_opcode_ne_fill hfill ▸ exec_onlyConsumes hd hw s

/-- Settles O35: FILL is neither drawn nor a writer, and its area is the width rounded by R113 times the height. -/
theorem fillAccountsTheRoundedArea : Obligations.FillAccountsTheRoundedArea := by
  intro x y w h s
  have hd : isDrawn (.fill x y w h) = false := rfl
  have hw : isWriter (.fill x y w h) = false := rfl
  have harea : areaOf (.fill x y w h) = (w + 14 - (w + 14) % 16) * h := rfl
  exact harea ▸ exec_onlyConsumes hd hw s

end Sys2Proof.Machine
end

section
/-! PROOFS. The state-setting commands (spec/42_state_setting.md): a one-word command is read from its opcode word
alone, and a command that is not drawn leaves its register writes. -/

namespace Sys2Proof.Machine

/-! ### Reading a one-word command (R60, R66, R73) -/

/-- The reader of opcode `op` reads a command without operands from a packet with its one word in front. -/
theorem decode_oneWord {op : Byte} {w : Word} (hlen : len op = 0) (hop : opcodeField w = op) (tail : List Word) :
    ∃ p : Packet, p[0] = w ∧
      decode (w :: tail) = .ok ((opcodeMap[op.toNat]'(toNat_lt_opcodeMap_length op)) p, tail) := by
  have hcmd : IsCommand [w] := by rw [IsCommand, List.headD_cons, hop, hlen, List.length_singleton]
  have hfront : (copyWords [w] (Vector.replicate 16 0#32))[0] = w := copyWords_getElem_zero hcmd _
  refine ⟨_, hfront, ?_⟩
  rw [← List.singleton_append, decode_append hcmd, instrOf,
    decodePacket_of_opcode ((congrArg opcodeField hfront).trans hop)]

/-- An unsigned field is a quotient and a remainder of the word. -/
theorem zext_extractLsb' (w : Word) (start len : Nat) :
    zext (w.extractLsb' start len) = w.toNat / 2 ^ start % 2 ^ len := by
  rw [zext, BitVec.extractLsb'_toNat, Nat.shiftRight_eq_div_pow]

/-! ### What a command that is not drawn leaves (R17, R98, R99) -/

/-- It completes, consumed, with its register writes and an unchanged `OUT`. -/
theorem exec_of_not_drawn {i : Instr} (hd : isDrawn i = false) (s : State) :
    ∃ t, exec i s = .next t ∧ Consumed (opcodeOf i) (areaOf i) s t ∧
      t.persistent = (registerWrites i s).persistent ∧ t.out = s.out := by
  have hexec := exec_completes (s := s) fun hdrawn => absurd (hd.symm.trans hdrawn) Bool.false_ne_true
  exact ⟨_, hexec, exec_consumed hexec, by rw [retire_persistent, operation_persistent],
    onlyDrawnCommandsEmit i s _ hd hexec⟩

/-! ### The five writers (R130, R132 to R135) -/

/-- Settles O36: the operand is the word's low 11 bits, which `TEXSTAT` holds whole. -/
theorem tpageWritesTexstat : Obligations.TpageWritesTexstat := by
  refine ⟨fun w tail hop => ?_, fun tp s htp => ?_⟩
  · obtain ⟨p, rfl, hdec⟩ := decode_oneWord (op := 0xE1#8) rfl hop tail
    have hfield : zext (p[0].extractLsb' 0 11) = p[0].toNat % 2048 := by simpa using zext_extractLsb' p[0] 0 11
    exact hfield ▸ hdec
  · obtain ⟨t, hexec, hcons, hregs, hout⟩ := exec_of_not_drawn (i := .tpage tp) rfl s
    have htex : t.texStat = BitVec.ofNat 11 tp := congrArg Persistent.texStat hregs
    refine ⟨t, hexec, hcons, ?_, (exec_writesOwnRegisters hexec).tpage rfl, hout⟩
    rw [htex, BitVec.toNat_ofNat, Nat.mod_eq_of_lt (Nat.lt_succ_of_le htp)]

/-- The two fields of a clip word (R66). -/
theorem clip_fields (w : Word) :
    zext (w.extractLsb' 0 10) = w.toNat % 1024 ∧ zext (w.extractLsb' 10 9) = w.toNat / 1024 % 512 :=
  ⟨by simpa using zext_extractLsb' w 0 10, zext_extractLsb' w 10 9⟩

/-- A corner of the clip window is held whole by its two registers. -/
theorem toNat_clip {x y : Nat} (hx : x ≤ 1023) (hy : y ≤ 511) :
    (BitVec.ofNat 10 x).toNat = x ∧ (BitVec.ofNat 9 y).toNat = y :=
  ⟨Nat.mod_eq_of_lt (Nat.lt_succ_of_le hx), Nat.mod_eq_of_lt (Nat.lt_succ_of_le hy)⟩

/-- Settles O37: the two fields are the corner, which `CLIP_X1` and `CLIP_Y1` hold whole. -/
theorem clipTlWritesTheTopLeftCorner : Obligations.ClipTlWritesTheTopLeftCorner := by
  refine ⟨fun w tail hop => ?_, fun x y s hx hy => ?_⟩
  · obtain ⟨p, rfl, hdec⟩ := decode_oneWord (op := 0xE3#8) rfl hop tail
    obtain ⟨hx, hy⟩ := clip_fields p[0]
    exact hx ▸ hy ▸ hdec
  · obtain ⟨t, hexec, hcons, hregs, hout⟩ := exec_of_not_drawn (i := .clipTl x y) rfl s
    have hx1 : t.clipX1 = BitVec.ofNat 10 x := congrArg Persistent.clipX1 hregs
    have hy1 : t.clipY1 = BitVec.ofNat 9 y := congrArg Persistent.clipY1 hregs
    obtain ⟨hnx, hny⟩ := toNat_clip hx hy
    exact ⟨t, hexec, hcons, hx1 ▸ hnx, hy1 ▸ hny, (exec_writesOwnRegisters hexec).clipTl rfl, hout⟩

/-- Settles O38: the two fields are the corner, which `CLIP_X2` and `CLIP_Y2` hold whole. -/
theorem clipBrWritesTheBottomRightCorner : Obligations.ClipBrWritesTheBottomRightCorner := by
  refine ⟨fun w tail hop => ?_, fun x y s hx hy => ?_⟩
  · obtain ⟨p, rfl, hdec⟩ := decode_oneWord (op := 0xE4#8) rfl hop tail
    obtain ⟨hx, hy⟩ := clip_fields p[0]
    exact hx ▸ hy ▸ hdec
  · obtain ⟨t, hexec, hcons, hregs, hout⟩ := exec_of_not_drawn (i := .clipBr x y) rfl s
    have hx2 : t.clipX2 = BitVec.ofNat 10 x := congrArg Persistent.clipX2 hregs
    have hy2 : t.clipY2 = BitVec.ofNat 9 y := congrArg Persistent.clipY2 hregs
    obtain ⟨hnx, hny⟩ := toNat_clip hx hy
    exact ⟨t, hexec, hcons, hx2 ▸ hnx, hy2 ▸ hny, (exec_writesOwnRegisters hexec).clipBr rfl, hout⟩

/-- Settles O39: the operands are the signed fields, and an 11-bit register holds a signed 11-bit number whole. -/
theorem drawofsWritesTheOffset : Obligations.DrawofsWritesTheOffset := by
  refine ⟨fun w tail hop => ?_, fun dx dy s hxlo hxhi hylo hyhi => ?_⟩
  · obtain ⟨p, rfl, hdec⟩ := decode_oneWord (op := 0xE5#8) rfl hop tail
    exact hdec
  · obtain ⟨t, hexec, hcons, hregs, hout⟩ := exec_of_not_drawn (i := .drawofs dx dy) rfl s
    have hx : t.ofsX = BitVec.ofInt 11 dx := congrArg Persistent.ofsX hregs
    have hy : t.ofsY = BitVec.ofInt 11 dy := congrArg Persistent.ofsY hregs
    have hsx : sext (BitVec.ofInt 11 dx) = dx := sext_ofInt ((offsetInRange_iff dx).mpr ⟨hxlo, hxhi⟩)
    have hsy : sext (BitVec.ofInt 11 dy) = dy := sext_ofInt ((offsetInRange_iff dy).mpr ⟨hylo, hyhi⟩)
    exact ⟨t, hexec, hcons, hx ▸ hsx, hy ▸ hsy, (exec_writesOwnRegisters hexec).drawofs rfl, hout⟩

/-- Settles O40: the operands are the two flags, which the registers hold as they are. -/
theorem maskbitsWritesTheFlags : Obligations.MaskbitsWritesTheFlags := by
  refine ⟨fun w tail hop => ?_, fun set chk s => ?_⟩
  · obtain ⟨p, rfl, hdec⟩ := decode_oneWord (op := 0xE6#8) rfl hop tail
    exact hdec
  · obtain ⟨t, hexec, hcons, hregs, hout⟩ := exec_of_not_drawn (i := .maskbits set chk) rfl s
    have hset : t.maskSet = set := congrArg Persistent.maskSet hregs
    have hchk : t.maskChk = chk := congrArg Persistent.maskChk hregs
    exact ⟨t, hexec, hcons, hset, hchk, hregs, hout⟩

end Sys2Proof.Machine
end

section
/-! PROOFS. What the drawn commands have in common (spec/43_emission_common.md): the batch they need, the primitive a
completed one has appended, the reordered colour, the `eor` flags of a run, and the bound on the coordinates. -/

namespace Sys2Proof.Machine

/-! ### The batch precondition (R158, R204) -/

/-- Settles O45: a drawn command is the only one that asks for a batch, and with what it asks for every one completes. -/
theorem drawnOutsideBatchFaults : Obligations.DrawnOutsideBatchFaults := by
  refine fun i s => ⟨exec_faults, fun _ hb => ⟨_, exec_completes fun _ => hb⟩, fun hd isOpen => ?_⟩
  exact ⟨_, exec_completes (by simp [hd])⟩

/-! ### The primitive of a drawn command (R150, R153, R160) -/

theorem emitted_of_drawnAs {i : Instr} {shading : Shading} {vertices : List (Vertex × Rgb)}
    (h : drawnAs i = some (shading, vertices)) (s : State) : emitted i s = primitive s shading vertices := by
  rw [emitted, h]

/-- With a batch open a drawn command completes, consumed without an area, with its primitive appended and the registers
as they were. -/
theorem exec_of_drawnAs {i : Instr} {shading : Shading} {vertices : List (Vertex × Rgb)} {s : State}
    (h : drawnAs i = some (shading, vertices)) (hb : s.batchOpen = true) :
    ∃ t, exec i s = .next t ∧ Consumed (opcodeOf i) 0 s t ∧ t.persistent = s.persistent ∧
      t.out = s.out ++ primitive s shading vertices := by
  have hd : isDrawn i = true := by rw [isDrawn_eq, h, Option.isSome_some]
  have hexec := exec_completes (i := i) fun _ => hb
  obtain ⟨hregs, hcons, -⟩ := drawnCommandsReadOnlyTheTransform i s s _ hd rfl rfl rfl rfl rfl hexec
  exact ⟨_, hexec, hcons, hregs, by rw [retire_out, operation_out, emitted_of_drawnAs h]⟩

/-- Settles O41: the primitive of each computes to its records written out, all in the one colour. -/
theorem flatPolygonsEmitTheirVertices : Obligations.FlatPolygonsEmitTheirVertices :=
  ⟨fun c v0 v1 v2 _ hb => exec_of_drawnAs (i := .polyF3 c v0 v1 v2) rfl hb,
    fun c v0 v1 v2 v3 _ hb => exec_of_drawnAs (i := .polyF4 c v0 v1 v2 v3) rfl hb⟩

/-- Settles O42: the primitive of each computes to its records written out, each in its own colour. -/
theorem shadedPolygonsEmitTheirVertices : Obligations.ShadedPolygonsEmitTheirVertices :=
  ⟨fun c0 c1 c2 v0 v1 v2 _ hb => exec_of_drawnAs (i := .polyG3 c0 v0 c1 v1 c2 v2) rfl hb,
    fun c0 c1 c2 c3 v0 v1 v2 v3 _ hb => exec_of_drawnAs (i := .polyG4 c0 v0 c1 v1 c2 v2 c3 v3) rfl hb⟩

/-! ### The colour reorder (R63, R155) -/

/-- Two fields side by side, as a number. -/
theorem toNat_append_eq_add {m n : Nat} (high : BitVec m) (low : BitVec n) :
    (high ++ low).toNat = high.toNat * 2 ^ n + low.toNat := by
  rw [BitVec.toNat_append, ← Nat.shiftLeft_add_eq_or_of_lt low.isLt, Nat.shiftLeft_eq]

/-- The output colour from the three bytes of the colour (R155). -/
theorem toNat_rgb (c : Colour) :
    (rgb c).toNat = c.toNat % 256 * 65536 + c.toNat / 256 % 256 * 256 + c.toNat / 65536 % 256 := by
  simp only [rgb, toNat_append_eq_add, BitVec.extractLsb'_toNat, Nat.shiftRight_eq_div_pow]
  omega

/-- Settles O49: the three low bytes of the word are those of the colour, and the top byte is not in it. -/
theorem colourIsReordered : Obligations.ColourIsReordered := by
  intro w
  have hcolour : (colourField w).toNat = w.toNat % 16777216 := by simp [colourField]
  rw [toNat_rgb, hcolour]
  omega

/-! ### The end-of-run flags (R157) -/

/-- The runs have the lengths of R157. -/
theorem length_eq_runLength {i : Instr} {shading : Shading} {vertices : List (Vertex × Rgb)}
    (h : drawnAs i = some (shading, vertices)) : vertices.length = runLength i := by
  unfold drawnAs at h
  split at h <;> cases h <;> rfl

/-- The flags of a run are those R157 gives a run of its length; the style before it has none. -/
theorem filterMap_eorFlag_primitive (s : State) (shading : Shading) (vertices : List (Vertex × Rgb)) :
    (primitive s shading vertices).filterMap eorFlag = runFlags vertices.length := by
  obtain rfl | ⟨front, last, rfl⟩ := vertices.eq_nil_or_concat'
  · rfl
  · have hstyle : eorFlag (styleRecord shading) = none := rfl
    have hflag (v : Vertex) (colour : Rgb) (eor : Bool) : eorFlag (vtxRecord s v colour eor) = some eor := rfl
    rw [primitive, vertexRun_concat]
    simp [hstyle, hflag, List.filterMap_map, runFlags]

/-- Settles O53: what a drawn command appends is one primitive, with a run of its own length. -/
theorem eorMarksTheLastVertexAlone : Obligations.EorMarksTheLastVertexAlone := by
  intro i s t hd h
  obtain ⟨rfl, -⟩ := exec_next h
  obtain ⟨⟨shading, vertices⟩, hdraw⟩ := Option.isSome_iff_exists.mp (isDrawn_eq i ▸ hd)
  refine ⟨emitted i s, by rw [retire_out, operation_out], ?_⟩
  rw [emitted_of_drawnAs hdraw, filterMap_eorFlag_primitive, length_eq_runLength hdraw]

/-! ### The bound on the coordinates (R64, R65, R153, R161, R184) -/

/-- The raw coordinates a drawn command can have: a vertex word's, moved by a size or by the one pixel of a line. -/
def InReach (v : Vertex) : Prop := |v.x| ≤ 32768 + 65535 + 1 ∧ |v.y| ≤ 32768 + 65535 + 1

/-- A vertex of a vertex word, moved by no more than a size and one pixel, is in reach. -/
theorem inReach_plus {v : Vertex} (hv : v.wellFormed = true) {dx dy : Int} (hdx : |dx| ≤ 65536) (hdy : |dy| ≤ 65536) :
    InReach (Vertex.plus v dx dy) := by
  obtain ⟨⟨hxlo, hxhi⟩, hylo, hyhi⟩ := (vertex_wellFormed_iff v).mp hv
  rw [abs_le] at hdx hdy
  simp only [InReach, Vertex.plus, abs_le]
  omega

theorem inReach_of_wellFormed {v : Vertex} (hv : v.wellFormed = true) : InReach v := by
  simpa [Vertex.plus] using inReach_plus hv (dx := 0) (dy := 0) (by decide) (by decide)

/-- The drawing offset and the corner add 1024 and 1023 at most. -/
theorem preScale_bounds (s : State) {v : Vertex} (h : InReach v) :
    |preScaleX s v.x| ≤ 32768 + 65535 + 1 + 1024 + 1023 ∧ |preScaleY s v.y| ≤ 32768 + 65535 + 1 + 1024 + 1023 := by
  obtain ⟨hx, hy⟩ := h
  obtain ⟨hoxlo, hoxhi⟩ := (offsetInRange_iff _).mp (offsetInRange_sext s.ofsX)
  obtain ⟨hoylo, hoyhi⟩ := (offsetInRange_iff _).mp (offsetInRange_sext s.ofsY)
  obtain ⟨hcx, hcy⟩ := (clipInRange_iff _ _).mp (clipInRange_zext s.clipX1 s.clipY1)
  rw [abs_le] at hx hy
  simp only [preScaleX, preScaleY, abs_le]
  omega

/-- A point of the default line expansion is an endpoint or an endpoint moved by one pixel (R180). -/
theorem inReach_lineQuad {p0 p1 : Vertex} (h0 : p0.wellFormed = true) (h1 : p1.wellFormed = true) (k0 k1 : Rgb) :
    ∀ q ∈ lineQuad p0 k0 p1 k1, InReach q.1 := by
  have hends : (orderEndpoints p0 k0 p1 k1).1.1.wellFormed = true ∧
      (orderEndpoints p0 k0 p1 k1).2.1.wellFormed = true := by
    unfold orderEndpoints
    split
    · exact ⟨h1, h0⟩
    · exact ⟨h0, h1⟩
  have hpixel (a b : Vertex) : |(thinOffset a b).1| ≤ 65536 ∧ |(thinOffset a b).2| ≤ 65536 := by
    unfold thinOffset
    split <;> decide
  obtain ⟨ha, hb⟩ := hends
  obtain ⟨hdx, hdy⟩ := hpixel (orderEndpoints p0 k0 p1 k1).1.1 (orderEndpoints p0 k0 p1 k1).2.1
  have ha' := inReach_plus ha hdx hdy
  have hb' := inReach_plus hb hdx hdy
  simp [lineQuad, inReach_of_wellFormed, ha, hb, ha', hb']

/-- The vertices of a drawn command with operands in range are in reach. -/
theorem inReach_of_drawnAs {i : Instr} {shading : Shading} {vertices : List (Vertex × Rgb)}
    (hi : i.wellFormed = true) (h : drawnAs i = some (shading, vertices)) : ∀ q ∈ vertices, InReach q.1 := by
  cases i with
  | polyF3 => cases h; simp_all [Instr.wellFormed, inReach_of_wellFormed]
  | polyF4 => cases h; simp_all [Instr.wellFormed, inReach_of_wellFormed]
  | polyG3 => cases h; simp_all [Instr.wellFormed, inReach_of_wellFormed]
  | polyG4 => cases h; simp_all [Instr.wellFormed, inReach_of_wellFormed]
  | lineF2 =>
    cases h
    obtain ⟨h0, h1⟩ := Bool.and_eq_true_iff.mp hi
    exact inReach_lineQuad h0 h1 _ _
  | lineG2 =>
    cases h
    obtain ⟨h0, h1⟩ := Bool.and_eq_true_iff.mp hi
    exact inReach_lineQuad h0 h1 _ _
  | rectF c origin width height =>
    cases h
    simp only [Instr.wellFormed, Bool.and_eq_true, halfInRange_iff] at hi
    obtain ⟨⟨horigin, hwidth⟩, hheight⟩ := hi
    have hsize {n : Nat} (hn : n ≤ 65535) : |(n : Int)| ≤ 65536 := by
      rw [Nat.abs_cast]
      omega
    have hzero : |(0 : Int)| ≤ 65536 := hsize (Nat.zero_le _)
    simp [inReach_of_wellFormed horigin, inReach_plus horigin (hsize hwidth) hzero,
      inReach_plus horigin hzero (hsize hheight), inReach_plus horigin (hsize hwidth) (hsize hheight)]
  | _ => cases h

/-- A record of a run is the record of one of its vertices. -/
theorem exists_of_mem_vertexRun {s : State} {vertices : List (Vertex × Rgb)} {r : Record}
    (h : r ∈ vertexRun s vertices) : ∃ q ∈ vertices, ∃ eor, r = vtxRecord s q.1 q.2 eor := by
  obtain rfl | ⟨front, last, rfl⟩ := vertices.eq_nil_or_concat'
  · cases h
  · rw [vertexRun_concat, List.mem_append, List.mem_map, List.mem_singleton] at h
    obtain ⟨q, hq, rfl⟩ | rfl := h
    · exact ⟨q, List.mem_append_left _ hq, false, rfl⟩
    · exact ⟨last, List.mem_append_right _ (List.mem_singleton_self _), true, rfl⟩

/-- A vertex a command with operands in range emits is the record of a vertex in reach. -/
theorem exists_inReach_of_mem_emitted {i : Instr} (hi : i.wellFormed = true) {s : State} {x y z : DevCoord}
    {colour : Rgb} {eor : Bool} (h : .vtx x y z colour eor ∈ emitted i s) :
    ∃ v, InReach v ∧ Record.vtx x y z colour eor = vtxRecord s v colour eor := by
  cases hdraw : drawnAs i with
  | none => simp [emitted, hdraw] at h
  | some drawn =>
    rw [emitted_of_drawnAs hdraw, primitive, List.mem_cons] at h
    obtain hstyle | hrun := h
    · cases hstyle
    · obtain ⟨q, hq, _, hr⟩ := exists_of_mem_vertexRun hrun
      cases hr
      exact ⟨q.1, inReach_of_drawnAs hi hdraw q hq, rfl⟩

/-- What a step within an invocation appends is what one decoded command emits, or nothing. -/
theorem appended_of_step {s t : State} {rs : List Record} (hp : s.phase = .running) (h : step s = .next t)
    (hout : t.out = s.out ++ rs) : rs = [] ∨ ∃ c, rs = emitted (instrOf c) s := by
  obtain ⟨-, rfl⟩ | ⟨-, rfl⟩ | ⟨n, -, hexec⟩ := step_running_outcomes hp h
  · exact .inl (List.self_eq_append_right.mp hout)
  · exact .inl (List.self_eq_append_right.mp hout)
  · obtain ⟨rfl, -⟩ := exec_next hexec
    rw [retire_out, operation_out] at hout
    exact .inr ⟨_, (List.append_cancel_left hout).symm⟩

/-- Settles O50: the vertex comes from a decoded command, whose operands are in range, by way of the transform. -/
theorem emittedCoordinatesAreBounded : Obligations.EmittedCoordinatesAreBounded := by
  intro s t rs hp h hout x y z colour eor hmem
  obtain rfl | ⟨c, rfl⟩ := appended_of_step hp h hout
  · cases hmem
  · obtain ⟨v, hv, hr⟩ := exists_inReach_of_mem_emitted (decodePacket_wellFormed _) hmem
    cases hr
    exact ⟨rfl, _, _, rfl, rfl, preScale_bounds s hv⟩

end Sys2Proof.Machine
end

section
/-! PROOFS. The line commands (spec/45_lines.md): the order of the endpoints, the offset of the orientation, and the
default expansion, which meets what R184 asks of it and does not depend on the order the endpoints come in. -/

namespace Sys2Proof.Machine

/-! ### The ordered endpoints and the offset (R180) -/

/-- The ordered endpoints are the two of the command, the left one first, and at equal x in command order. -/
theorem orderEndpoints_spec (p0 : Vertex) (k0 : Rgb) (p1 : Vertex) (k1 : Rgb) :
    ∃ a b, orderEndpoints p0 k0 p1 k1 = (a, b) ∧
      ((a = (p0, k0) ∧ b = (p1, k1)) ∨ (a = (p1, k1) ∧ b = (p0, k0))) ∧
      a.1.x ≤ b.1.x ∧ (p0.x = p1.x → a = (p0, k0)) := by
  unfold orderEndpoints
  split
  next hlt => exact ⟨_, _, rfl, .inr ⟨rfl, rfl⟩, hlt.le, fun heq => absurd heq hlt.ne'⟩
  next hge => exact ⟨_, _, rfl, .inl ⟨rfl, rfl⟩, not_lt.mp hge, fun _ => rfl⟩

/-- Endpoints with different x are ordered alike in either order. -/
theorem orderEndpoints_comm {p0 p1 : Vertex} (hne : p0.x ≠ p1.x) (k0 k1 : Rgb) :
    orderEndpoints p0 k0 p1 k1 = orderEndpoints p1 k1 p0 k0 := by
  obtain hlt | hgt := lt_or_gt_of_ne hne
  · rw [orderEndpoints, orderEndpoints, if_neg hlt.not_gt, if_pos hlt]
  · rw [orderEndpoints, orderEndpoints, if_pos hgt, if_neg hgt.not_gt]

/-- The default offset of an up segment and of any other (R180, D17). -/
def orientationOffset (up : Bool) : Int × Int := (if up then 1 else -1, 1)

theorem orientationOffset_le_one (up : Bool) : |(orientationOffset up).1| ≤ 1 ∧ |(orientationOffset up).2| ≤ 1 := by
  cases up <;> decide

theorem thinOffset_eq (a b : Vertex) : thinOffset a b = orientationOffset (decide (b.y < a.y)) := by
  by_cases hup : b.y < a.y <;> simp [thinOffset, orientationOffset, hup]

/-! ### The default expansion (R180, R184) -/

/-- The six points from the ordered endpoints: each endpoint, and each moved by the offset of the orientation. -/
theorem lineQuad_of_ordered {p0 p1 : Vertex} {k0 k1 : Rgb} {a b : Vertex × Rgb}
    (hord : orderEndpoints p0 k0 p1 k1 = (a, b)) :
    lineQuad p0 k0 p1 k1 =
      let d := orientationOffset (decide (b.1.y < a.1.y))
      let a' := (Vertex.plus a.1 d.1 d.2, a.2)
      let b' := (Vertex.plus b.1 d.1 d.2, b.2)
      [a, b, b', a, b', a'] := by
  simp only [lineQuad, hord, thinOffset_eq]

/-- Endpoints with different x are expanded alike in either order. -/
theorem lineQuad_comm {p0 p1 : Vertex} (hne : p0.x ≠ p1.x) (k0 k1 : Rgb) :
    lineQuad p0 k0 p1 k1 = lineQuad p1 k1 p0 k0 := by
  rw [lineQuad, lineQuad, orderEndpoints_comm hne]

/-- An endpoint of a horizontal segment, moved by at most one pixel or not at all, is within one pixel of its height. -/
theorem within_one_pixel {y dy : Int} {a b q : Vertex} (ha : a.y = y) (hb : b.y = y) (hdy : |dy| ≤ 1)
    (hq : q.y = a.y ∨ q.y = b.y ∨ q.y = a.y + dy ∨ q.y = b.y + dy) : y - 1 ≤ q.y ∧ q.y ≤ y + 1 := by
  rw [abs_le] at hdy
  omega

/-- Settles O47: the offset is that of the orientation, and L1 to L5 are read off the six points. -/
theorem defaultLineQuadMeetsItsProperties : Obligations.DefaultLineQuadMeetsItsProperties := by
  refine ⟨orientationOffset, orientationOffset_le_one, fun p0 p1 k0 k1 => ?_⟩
  obtain ⟨a, b, hord, hends, hleft, htie⟩ := orderEndpoints_spec p0 k0 p1 k1
  have hpoints := lineQuad_of_ordered hord
  refine ⟨a, b, _, _, _, _, _, hends, hpoints, hleft, htie, rfl, rfl, ?_, fun hflat => ?_⟩
  · simp [Vertex.plus]
  · have hheight : a.1.y = p0.y ∧ b.1.y = p0.y := by
      obtain ⟨rfl, rfl⟩ | ⟨rfl, rfl⟩ := hends
      · exact ⟨rfl, hflat.symm⟩
      · exact ⟨hflat.symm, rfl⟩
    obtain ⟨ha, hb⟩ := hheight
    obtain ⟨-, hdy⟩ := orientationOffset_le_one (decide (b.1.y < a.1.y))
    intro q hq
    refine within_one_pixel ha hb hdy ?_
    simp only [List.mem_cons, List.not_mem_nil, or_false] at hq
    obtain rfl | rfl | rfl | rfl | rfl | rfl := hq <;> simp [Vertex.plus]

/-! ### The two drawn commands (R181, R182) -/

/-- The record of a vertex is the one written out from R151 and R153. -/
theorem vtxRecord_eq_emittedVertex (s : State) (v : Vertex) (colour : Rgb) (eor : Bool) :
    vtxRecord s v colour eor = emittedVertex s v.x v.y colour eor := rfl

/-- The primitive of an expanded line is its style and the six records of its ordered endpoints. -/
theorem primitive_lineQuad (s : State) (shading : Shading) (p0 : Vertex) (k0 : Rgb) (p1 : Vertex) (k1 : Rgb) :
    primitive s shading (lineQuad p0 k0 p1 k1) = .style shading .gequal Config.cullMode ::
      if p1.x < p0.x then quadRecords s p1 k1 p0 k0 else quadRecords s p0 k0 p1 k1 := by
  have hquad {a b : Vertex × Rgb} (hord : orderEndpoints p0 k0 p1 k1 = (a, b)) :
      primitive s shading (lineQuad p0 k0 p1 k1) =
        .style shading .gequal Config.cullMode :: quadRecords s a.1 a.2 b.1 b.2 := by
    rw [lineQuad_of_ordered hord]
    simp only [primitive, styleRecord, vertexRun, vtxRecord_eq_emittedVertex, Vertex.plus, orientationOffset,
      decide_eq_true_eq, quadRecords]
  split
  next hlt => exact hquad (if_pos hlt)
  next hge => exact hquad (if_neg hge)

/-- Settles O43: the primitive of each is the one of its expansion. -/
theorem linesEmitTheirQuad : Obligations.LinesEmitTheirQuad :=
  ⟨fun c v0 v1 s hb => primitive_lineQuad s .flat .. ▸ exec_of_drawnAs (i := .lineF2 c v0 v1) rfl hb,
    fun c0 c1 v0 v1 s hb => primitive_lineQuad s .gouraud .. ▸ exec_of_drawnAs (i := .lineG2 c0 v0 c1 v1) rfl hb⟩

theorem exec_lineF2 (c : Colour) (v0 v1 : Vertex) (s : State) :
    exec (.lineF2 c v0 v1) s = emitPrimitive 0x40#8 .flat (lineQuad v0 (rgb c) v1 (rgb c)) s := rfl

theorem exec_lineG2 (c0 : Colour) (v0 : Vertex) (c1 : Colour) (v1 : Vertex) (s : State) :
    exec (.lineG2 c0 v0 c1 v1) s = emitPrimitive 0x50#8 .gouraud (lineQuad v0 (rgb c0) v1 (rgb c1)) s := rfl

/-- Settles O48: each command emits its expansion, which is the same in either order. -/
theorem lineIgnoresEndpointOrder : Obligations.LineIgnoresEndpointOrder := by
  refine fun c0 c1 v0 v1 s hne => ⟨?_, ?_⟩
  · rw [exec_lineF2, exec_lineF2, lineQuad_comm hne]
  · rw [exec_lineG2, exec_lineG2, lineQuad_comm hne]

end Sys2Proof.Machine
end

section
/-! PROOFS. The rectangle command (spec/46_rectangles.md): the four corners of an origin and a size. -/

namespace Sys2Proof.Machine

/-- The primitive of a rectangle is its style and its four corners, the far ones `x + w` and `y + h` (R190). -/
theorem primitive_rectCorners (s : State) (shading : Shading) (origin : Vertex) (w h : Int) (colour : Rgb) :
    primitive s shading [(origin, colour), (Vertex.plus origin w 0, colour), (Vertex.plus origin 0 h, colour),
        (Vertex.plus origin w h, colour)] =
      [.style shading .gequal Config.cullMode, emittedVertex s origin.x origin.y colour false,
        emittedVertex s (origin.x + w) origin.y colour false, emittedVertex s origin.x (origin.y + h) colour false,
        emittedVertex s (origin.x + w) (origin.y + h) colour true] := by
  simp only [primitive, styleRecord, vertexRun, vtxRecord_eq_emittedVertex, Vertex.plus, Int.add_zero]

/-- Settles O44: the primitive of the command is the one of its corners. -/
theorem rectangleEmitsItsCorners : Obligations.RectangleEmitsItsCorners :=
  fun c origin w h s hb =>
    primitive_rectCorners s .flat origin w h (rgb c) ▸ exec_of_drawnAs (i := .rectF c origin w h) rfl hb

end Sys2Proof.Machine
end

section
/-! PROOFS. Exceptional conditions (spec/60_exceptions.md): the batch fault is the only one within an invocation, a host
that keeps the batch discipline never meets a fault, and a partial command resumed without new words stops again. -/

namespace Sys2Proof.Machine

/-! ### The only conditions (R203, R204) -/

/-- An instruction completes, or it meets the batch fault. -/
theorem exec_completes_or_faults (i : Instr) (s : State) :
    (∃ t, exec i s = .next t) ∨ (exec i s = .fault .emitOutsideBatch ∧ s.batchOpen = false) := by
  cases hb : s.batchOpen with
  | true => exact .inl ⟨_, exec_completes fun _ => hb⟩
  | false =>
    cases hd : isDrawn i with
    | true => exact .inr ⟨exec_faults hd hb, rfl⟩
    | false => exact .inl ⟨_, exec_completes (by simp [hd])⟩

/-- The fetch finds neither a word nor the end only beyond `N` (R19). -/
theorem length_lt_pos_of_fetch_noWord {s : State} (h : fetch s = .noWord) : s.buf.length < s.pos := by
  by_contra hle
  exact fetch_ne_noWord (Nat.le_of_not_lt hle) h

/-- A step within an invocation completes, or it meets one of two faults. -/
theorem step_running_completes_or_faults {s : State} (hp : s.phase = .running) :
    (∃ t, step s = .next t) ∨ (step s = .fault .emitOutsideBatch ∧ s.batchOpen = false) ∨
      (step s = .fault .posBeyondBuffer ∧ s.buf.length < s.pos) := by
  cases hf : fetch s with
  | bufferEnd => exact .inl ⟨_, step_of_bufferEnd hp hf⟩
  | noWord => exact .inr (.inr ⟨by rw [step_of_running hp, stepCommand, hf], length_lt_pos_of_fetch_noWord hf⟩)
  | incomplete => exact .inl ⟨_, step_of_incomplete hp hf⟩
  | command n =>
    rw [step_of_command hp hf]
    exact (exec_completes_or_faults _ s).imp_right .inl

/-- The host's actions complete or fault (R24, R210). -/
theorem hostAct_ne_refused (a : HostAction) (s : State) (r : Refusal) : hostAct a s ≠ .refused r := by
  cases a with
  | beginBatch => cases hb : s.batchOpen <;> simp [hostAct, hb]
  | endBatch => cases hb : s.batchOpen <;> simp [hostAct, hb]
  | invoke words carry sum => exact nofun
  | resume more => exact nofun
  | writeStatusHost bits => exact nofun

theorem step_ne_refused (s : State) (r : Refusal) : step s ≠ .refused r := by
  cases hp : s.phase with
  | idle =>
    cases hs : s.script with
    | nil => rw [step_of_idle_of_script_nil hp hs]; exact nofun
    | cons a rest => rw [step_of_script hp hs]; exact hostAct_ne_refused a _ r
  | running =>
    intro href
    obtain ⟨t, h⟩ | ⟨h, -⟩ | ⟨h, -⟩ := step_running_completes_or_faults hp <;> cases h.symm.trans href

/-- Settles O32: what a step within an invocation can do other than complete, by what its fetch finds. -/
theorem noOtherConditionExists : Obligations.NoOtherConditionExists := by
  refine ⟨step_ne_refused, fun s f hp hfault => ?_⟩
  obtain ⟨t, h⟩ | ⟨h, hb⟩ | ⟨h, hpos⟩ := step_running_completes_or_faults hp
  · cases h.symm.trans hfault
  · cases h.symm.trans hfault
    exact .inl ⟨rfl, hb⟩
  · cases h.symm.trans hfault
    exact .inr ⟨rfl, hpos⟩

/-! ### A disciplined host (R24, R204, R222, R226) -/

/-- What a disciplined host keeps: `POS` within the buffer, and the discipline for what is left of the script. -/
structure Guarded (s : State) : Prop where
  pos_le : s.pos ≤ s.buf.length
  disciplined : Disciplined s

/-- In an idle state the discipline is a matter of the batch and the script alone. -/
theorem guarded_of_idle {s : State} (hp : s.phase = .idle) (hle : s.pos ≤ s.buf.length)
    (hd : disciplined s.batchOpen s.script = true) : Guarded s :=
  ⟨hle, hd, by simp [hp]⟩

/-- An invocation that starts with a batch open stands at the head of its buffer. -/
theorem invoke_guarded {s : State} (hb : s.batchOpen = true) (hd : disciplined s.batchOpen s.script = true)
    (words : List Word) (carry sum : Int) : Guarded (invoke words carry sum s) :=
  ⟨Nat.zero_le _, hd, fun _ => hb⟩

/-- The next action of a disciplined host completes and leaves the rest of the discipline to keep. -/
theorem hostAct_guarded {a : HostAction} {s : State} (hp : s.phase = .idle) (hle : s.pos ≤ s.buf.length)
    (hd : disciplined s.batchOpen (a :: s.script) = true) : ∃ t, hostAct a s = .next t ∧ Guarded t := by
  cases a with
  | beginBatch =>
    obtain ⟨hb, hrest⟩ : s.batchOpen = false ∧ disciplined true s.script = true := by simpa [disciplined] using hd
    exact ⟨_, if_neg (by simp [hb]), guarded_of_idle hp hle hrest⟩
  | endBatch =>
    obtain ⟨hb, hrest⟩ : s.batchOpen = true ∧ disciplined false s.script = true := by simpa [disciplined] using hd
    exact ⟨_, if_pos hb, guarded_of_idle hp hle hrest⟩
  | invoke words carry sum =>
    obtain ⟨hb, hrest⟩ := Bool.and_eq_true_iff.mp hd
    exact ⟨_, rfl, invoke_guarded hb hrest words carry sum⟩
  | resume more =>
    obtain ⟨hb, hrest⟩ := Bool.and_eq_true_iff.mp hd
    exact ⟨_, rfl, invoke_guarded hb hrest _ _ _⟩
  | writeStatusHost bits => exact ⟨_, rfl, guarded_of_idle hp hle hd⟩

/-- A step within an invocation leaves `POS` within the buffer (R19, R95). -/
theorem step_running_pos_le {s t : State} (hp : s.phase = .running) (hle : s.pos ≤ s.buf.length)
    (h : step s = .next t) : t.pos ≤ t.buf.length := by
  obtain ⟨-, rfl⟩ | ⟨-, rfl⟩ | ⟨n, hf, hexec⟩ := step_running_outcomes hp h
  · simpa using hle
  · simpa using hle
  · rw [(exec_surroundings hexec).buf]
    exact (pos_of_command hf hexec).2

/-- Under the discipline every step completes and keeps it. -/
theorem step_guarded {s : State} (hs : Guarded s) : ∃ t, step s = .next t ∧ Guarded t := by
  obtain ⟨hle, hd, hbatch⟩ := hs
  cases hp : s.phase with
  | idle =>
    cases hscript : s.script with
    | nil => exact ⟨s, step_of_idle_of_script_nil hp hscript, hle, hd, hbatch⟩
    | cons a rest =>
      rw [step_of_script hp hscript]
      exact hostAct_guarded (s := { s with script := rest }) hp hle (hscript ▸ hd)
  | running =>
    have hb := hbatch hp
    obtain ⟨t, h⟩ := step_completes hp hle hb
    obtain ⟨hscript', hbatch', -⟩ := hostWaitsDuringInvocation s t hp h
    refine ⟨t, h, step_running_pos_le hp hle h, ?_, fun _ => hbatch'.trans hb⟩
    rwa [hscript', hbatch']

/-- A run is safe from every state of a set that each step completes in and stays in. -/
theorem safeFrom_of_invariant {P : State → Prop} (hstep : ∀ s, P s → ∃ t, step s = .next t ∧ P t) {s : State}
    (hs : P s) : SafeFrom s := by
  intro n
  induction n generalizing s with
  | zero => exact ⟨s, rfl⟩
  | succ n ih =>
    obtain ⟨t, h, ht⟩ := hstep s hs
    rw [run_succ_of_next h]
    exact ih ht

/-- Settles O27: the discipline, with `POS` within the buffer, is an invariant under which every step completes. -/
theorem disciplinedHostNeverFaults : Obligations.DisciplinedHostNeverFaults :=
  fun _ hle hd => safeFrom_of_invariant (fun _ => step_guarded) ⟨hle, hd⟩

/-! ### Resumed without new words (R208) -/

/-- The stream of a resume without new words begins with the partial command that the stop left. -/
theorem fetch_resume_nil {s : State} {w0 : Word} (hw : s.buf[s.pos]? = some w0)
    (hshort : s.buf.length - s.pos < 1 + len (opcodeField w0)) : fetch (resume [] s) = .incomplete := by
  have hbuf : (resume [] s).buf = s.buf.drop s.pos := List.append_nil _
  have hword : (resume [] s).buf[(resume [] s).pos]? = some w0 := by
    rw [hbuf, List.getElem?_drop]
    exact hw
  rw [fetch_of_word hword, if_pos]
  rw [hbuf, List.length_drop]
  exact hshort

/-- Settles O21: the resume keeps the unconsumed words and the counters, and the step after it is the incomplete stop. -/
theorem resumeWithoutWordsStopsAgain : Obligations.ResumeWithoutWordsStopsAgain := by
  intro s w0 rest hp hs hw hshort
  have hstart : step s = .next (resume [] { s with script := rest }) := step_of_script hp hs
  have hstop := step_of_incomplete (s := resume [] { s with script := rest }) rfl (fetch_resume_nil hw hshort)
  have hrun : run 2 s = .next (stopIncomplete (resume [] { s with script := rest })) := by
    rw [run_succ_of_next hstart, run_one, hstop]
  exact ⟨_, hrun, rfl, rfl, rfl, rfl, List.append_nil _⟩

end Sys2Proof.Machine
end
